-- ==== Sys2Proof/Word.lean ====
section
/-! DEFINITION. The one word the block handles: the byte (00_scope.md section 7.1). -/

namespace Sys2Proof

/-- An unsigned 8-bit value; the block compares bytes for equality and sums them (00_scope.md 7.1). -/
abbrev Byte := BitVec 8

end Sys2Proof
end

