-- ==== Sys2Proof/Config.lean ====
section
/-! DEFINITION. The constants of the block (00_scope.md section 5), the parameters an engine instance is built
with, the values the spec leaves open, and the free values. -/

namespace Sys2Proof

/-- `FRAME_LEN` (R4): a frame is exactly six bytes. -/
abbrev Config.frameLen : Nat := 6

/-- `SYNC` (R5): the sync/domain byte, a named constant of value 0x01. -/
def Config.sync : Byte := 0x01#8

/-- `CTRL_POS` (R9): the index of the frame byte compared with the control markers. -/
def Config.ctrlPos : Fin Config.frameLen := 4

/-- `TICK_PERIOD` (R9), in milliseconds. Documentation only: no rule reads it (R270). -/
def Config.tickPeriodMs : Nat := 500

/-- The parameters of R6, R7 and R8: constants of one engine instance (R22), over which every general statement
about the model quantifies. `txqCap = none` is the unbounded send queue. -/
structure Params where
  addrBroadcast : Byte
  addrPanel1 : Byte
  suspendByte : Byte
  resumeByte : Byte
  rxqCap : Nat
  txqCap : Option Nat
  retryN : Nat
  deriving DecidableEq, Repr

/-- The ranges R7 and R8 give: both capacities are positive; no other parameter is restricted (R6). -/
abbrev Params.wf (p : Params) : Prop := 1 ≤ p.rxqCap ∧ ∀ c ∈ p.txqCap, 1 ≤ c

/-- `ADDR_BROADCAST` (R6): open. DESIGN CHOICE, log 6: no value can be proved of it. -/
opaque Config.addrBroadcast : Byte
/-- `ADDR_PANEL1` (R6): open. DESIGN CHOICE, log 6. -/
opaque Config.addrPanel1 : Byte
/-- `SUSPEND_BYTE` (R6): open. DESIGN CHOICE, log 6. -/
opaque Config.suspendByte : Byte
/-- `RESUME_BYTE` (R6): open. DESIGN CHOICE, log 6. -/
opaque Config.resumeByte : Byte
/-- `RETRY_N` (R8): open. DESIGN CHOICE, log 6. -/
opaque Config.retryN : Nat

/-- The parameters of `State.reset`: the defaults of R7 (`RXQ_CAP` = 1024) and R8 (`TXQ_CAP` unbounded), and the
open values. DESIGN CHOICE, log 6 (unsafe for the two defaults). -/
def Config.params : Params where
  addrBroadcast := Config.addrBroadcast
  addrPanel1 := Config.addrPanel1
  suspendByte := Config.suspendByte
  resumeByte := Config.resumeByte
  rxqCap := 1024
  txqCap := none
  retryN := Config.retryN

/-- Free bytes: the values R241 and U1 call unspecified (`ackByte`, `ownAddr`, `FR` after RESET; `ackByte`, `FR`
after CONNECT). Applied to `State.freeCount`. DESIGN CHOICE, log 8. -/
opaque Config.freeByte : Nat → Byte

/-- Free bits: bits 47..8 of the `info` field of an `E_LINE_ERROR` record, of which R77 gives bits 7..0 only.
DESIGN CHOICE, log 19. -/
opaque Config.lineInfoHigh : Byte → BitVec 40

end Sys2Proof
end

