-- ==== Sys2Proof/Syntax.lean ====
section
/-! DEFINITION. Frames, draws, the operations (one constructor per row of spec/opcode_table.json), the stimuli a
script is made of, and the interfaces an operation is selected on. -/

namespace Sys2Proof

/-- Format F (R70): the six bytes of a frame, in wire order `F[0] .. F[5]` (R47). -/
structure Frame where
  sync : Byte
  src : Byte
  dst : Byte
  var : Byte
  val : Byte
  cks : Byte
  deriving DecidableEq, Repr

/-- The kind of a send-queue item (R11, R72). -/
inductive Kind where
  | poll
  | command
  deriving DecidableEq, Repr

/-- The environment's draw for a transport write (R153, U4). -/
inductive Draw where
  | ok
  | fail
  deriving DecidableEq, Repr

/-- Why opening the transport failed (R78). -/
inductive Reason where
  | portUnavailable
  | portInUse
  | unsupportedConfig
  | ioFailure
  deriving DecidableEq, Repr

/-- The environment's draw for the transport's open, and the value CONNECT returns (R181). -/
inductive OpenResult where
  | ok
  | fail (reason : Reason)
  deriving DecidableEq, Repr

/-- A listener identity (R20): opaque, only compared. DESIGN CHOICE, log 12: the identities are natural numbers. -/
abbrev Listener := Nat

/-- The 29 operations (R80 to R83). The bits of a row are operands; `connect` carries its draw (R181). -/
inductive Instr where
  | rxpush (b : Byte)
  | rxpushOvf (b : Byte)
  | rxerr (k : Byte)
  | rxioerr
  | asmSync
  | asmAck (b : Byte)
  | asmDrop (b : Byte)
  | asmFill (b : Byte)
  | asmLast (b : Byte)
  | asmCancel
  | clsCrcerr (f : Frame)
  | clsSuspend (f : Frame)
  | clsResume (f : Frame)
  | clsOk (f : Frame)
  | clsNfu (f : Frame)
  | tickNop
  | tickPoll (f : Frame)
  | tickAcked (f : Frame)
  | tickRetry (f : Frame)
  | tickExhaust (f : Frame)
  | tickTxfail (k : Kind) (f : Frame)
  | sendP (f : Frame)
  | sendC (f : Frame)
  | connect (panelId : Byte) (o : OpenResult)
  | close
  | isconn
  | ladd (l : Listener)
  | lrem (l : Listener)
  | reset
  deriving DecidableEq, Repr

/-- One line of a stimulus script (R86): one input event, taken as one atomic step. `asm` is one assembler step;
`tick` carries the draw, consulted only if the tick writes (R153). -/
inductive Stimulus where
  | rxb (b : Byte)
  | rxerr (k : Byte)
  | rxioerr
  | asm
  | tick (w : Draw)
  | sendP (f : Frame)
  | sendC (f : Frame)
  | connect (panelId : Byte) (o : OpenResult)
  | close
  | isconn
  | ladd (l : Listener)
  | lrem (l : Listener)
  | reset
  deriving DecidableEq, Repr

/-- The interface a unit of bits arrives on (R80 to R83, D2), with what selects an operation and is no bit of the
unit: the draws and the listener. `cls` (a completed frame) and `cancel` are inside the block. -/
inductive Port where
  | rx
  | rxErr
  | rxIo
  | asm
  | cls
  | cancel
  | tick (w : Draw)
  | send
  | connect (o : OpenResult)
  | close
  | isconn
  | ladd (l : Listener)
  | lrem (l : Listener)
  | reset
  deriving DecidableEq, Repr

end Sys2Proof
end

