-- ==== Sys2Proof/Machine/Operands.lean ====
section
/-! DEFINITION. Operand assembly: the bytes of a frame by index, the checksum (R79, R130), the byte and 48-bit
layouts of formats F and Q (R47, R70, R72). -/

namespace Sys2Proof

/-- `F[i]` (R70): index 0 is the first byte on the wire (R47). -/
def Frame.get (f : Frame) (i : Fin Config.frameLen) : Byte :=
  match i with
  | 0 => f.sync
  | 1 => f.src
  | 2 => f.dst
  | 3 => f.var
  | 4 => f.val
  | 5 => f.cks

/-- `FR[i] <- v` (00_scope.md 7.2). -/
def Frame.set (f : Frame) (i : Fin Config.frameLen) (v : Byte) : Frame :=
  match i with
  | 0 => { f with sync := v }
  | 1 => { f with src := v }
  | 2 => { f with dst := v }
  | 3 => { f with var := v }
  | 4 => { f with val := v }
  | 5 => { f with cks := v }

/-- The un-reduced sum of `F[0] .. F[4]`, each an unsigned integer 0..255 (R79). -/
def Frame.sum (f : Frame) : Nat :=
  f.sync.toNat + f.src.toNat + f.dst.toNat + f.var.toNat + f.val.toNat

/-- `Checksum(F) = (F[0] + F[1] + F[2] + F[3] + F[4]) mod 256` (R79, R130). -/
def checksum (f : Frame) : Byte := BitVec.ofNat 8 (f.sum % 256)

/-- A frame is valid when `Checksum(F) = F[5]` (R130). -/
def Frame.valid (f : Frame) : Bool := checksum f == f.cks

/-- The six bytes in wire order (R47). -/
def Frame.bytes (f : Frame) : List Byte := [f.sync, f.src, f.dst, f.var, f.val, f.cks]

/-- The 48-bit packing: `F[0]` in bits 47..40, `F[5]` in bits 7..0 (R47, D20). -/
def Frame.pack (f : Frame) : BitVec 48 :=
  f.sync ++ f.src ++ f.dst ++ f.var ++ f.val ++ f.cks

/-- The frame whose 48-bit packing is `v` (R47). -/
def Frame.unpack (v : BitVec 48) : Frame where
  sync := v.extractLsb' 40 8
  src := v.extractLsb' 32 8
  dst := v.extractLsb' 24 8
  var := v.extractLsb' 16 8
  val := v.extractLsb' 8 8
  cks := v.extractLsb' 0 8

/-- The `kind` bit of format Q: 0 is POLL, 1 is COMMAND (R72). -/
def Kind.code : Kind → BitVec 1
  | .poll => 0
  | .command => 1

/-- The 49-bit pattern of an item: `kind` is bit 48, the frame bits 47..0 (R72). -/
def packItem (k : Kind) (f : Frame) : BitVec 49 := k.code ++ f.pack

/-- The item bits as bytes: the byte that holds bit 48 first, its other bits 0, then the frame in wire order.
DESIGN CHOICE, log 22: the spec gives 49 bits and no byte layout. -/
def itemBytes (k : Kind) (f : Frame) : List Byte := k.code.setWidth 8 :: f.bytes

end Sys2Proof
end

