-- ==== Sys2Proof/WellFormed.lean ====
section
/-! DEFINITION. What the operation table (spec/opcode_table.json) asks of the bits of a row alone, without the
state: the leading SYNC of a classified frame, a stray byte that is not SYNC, and the checksum test. -/

namespace Sys2Proof

/-- The bits of a row of format F: a classified frame begins with SYNC (R81, mask 0xFF0000000000). -/
def Frame.classified (f : Frame) : Bool := f.sync == Config.sync

/-- An operation whose operand bits its row admits. Rows without a condition on their bits admit any; outbound
frames are not checked (R150). -/
def Instr.wf : Instr → Bool
  | .rxpush _ => true
  | .rxpushOvf _ => true
  | .rxerr _ => true
  | .rxioerr => true
  | .asmSync => true
  | .asmAck b => b != Config.sync
  | .asmDrop b => b != Config.sync
  | .asmFill _ => true
  | .asmLast _ => true
  | .asmCancel => true
  | .clsCrcerr f => f.classified && !f.valid
  | .clsSuspend f => f.classified && f.valid
  | .clsResume f => f.classified && f.valid
  | .clsOk f => f.classified && f.valid
  | .clsNfu f => f.classified && f.valid
  | .tickNop => true
  | .tickPoll _ => true
  | .tickAcked _ => true
  | .tickRetry _ => true
  | .tickExhaust _ => true
  | .tickTxfail _ _ => true
  | .sendP _ => true
  | .sendC _ => true
  | .connect _ _ => true
  | .close => true
  | .isconn => true
  | .ladd _ => true
  | .lrem _ => true
  | .reset => true

end Sys2Proof
end

