-- ==== Sys2Proof/Decode.lean ====
section
/-! DEFINITION. The operation map (R80 to R84): which operation a unit of bits selects on an interface, given what
the table's conditions read of the state; then the encoder (the unit of bits of each operation) and the reading of a
bare table word. -/

namespace Sys2Proof

/-- What the conditions of the operation map read of the state (R80, R81, R82, R83). `headRetries` is the retry
counter of the head item of TXQ, 0 when TXQ is empty. -/
structure View where
  connected : Bool
  waitingForAck : Bool
  suspended : Bool
  ackValid : Bool
  ackByte : Byte
  ownAddr : Byte
  fidx : Fin Config.frameLen
  rxFull : Bool
  txEmpty : Bool
  headRetries : Nat
  params : Params
  deriving DecidableEq, Repr

/-- Why a unit of bits selects no operation. -/
inductive Reject where
  /-- The unit has not the number of bytes of its format. -/
  | wrongLength
  /-- An assembler step is enabled only while `connected = 1` (R110). -/
  | assemblerOff
  /-- A classified frame begins with SYNC (R81). -/
  | noSync
  /-- The byte that holds the `kind` bit holds something else beside it (R72, log 22). -/
  | badKind
  deriving DecidableEq, Repr

/-- What the decoder answers. -/
inductive Decoded where
  | op (i : Instr)
  | rejected (r : Reject)
  deriving DecidableEq, Repr

/-- The operation decoded, if any. -/
def Decoded.toOption : Decoded → Option Instr
  | .op i => some i
  | .rejected _ => none

/-- `AckMatches(it) := (ackValid = 1) and (it.bytes[5] = ackByte)` (R153); `waitingForAck` is not looked at (C2). -/
def View.ackMatches (v : View) (f : Frame) : Bool := v.ackValid && f.cks == v.ackByte

/-- `TICK.NOP`'s condition: nothing to do (R154). -/
def View.tickIdle (v : View) : Bool := !v.connected || v.suspended || v.txEmpty

/-- The addressing check: `F[2]` is one of the three accepted addresses (R131, R135). -/
def accepted (p : Params) (own : Byte) (f : Frame) : Bool :=
  f.get 2 == own || f.get 2 == p.addrBroadcast || f.get 2 == p.addrPanel1

/-- The five verdicts of the classifier (R131). -/
inductive Verdict where
  | crcError
  | suspend
  | resume
  | ok
  | notForUs
  deriving DecidableEq, Repr

/-- `Classify(F)` (R131): checksum, then suspend before resume, then the address; total. -/
def classify (p : Params) (own : Byte) (f : Frame) : Verdict :=
  if checksum f ≠ f.get 5 then .crcError
  else if f.get Config.ctrlPos = p.suspendByte then .suspend
  else if f.get Config.ctrlPos = p.resumeByte then .resume
  else if accepted p own f then .ok
  else .notForUs

/-- The CLS operation of a verdict (R81). -/
def Verdict.op (f : Frame) : Verdict → Instr
  | .crcError => .clsCrcerr f
  | .suspend => .clsSuspend f
  | .resume => .clsResume f
  | .ok => .clsOk f
  | .notForUs => .clsNfu f

/-- The condition column of the operation table, row by row, where it reads the state or the parameters. The two
capacity rows read `rxFull`; conditions on the bits alone are `Instr.wf`; the draw of a tick is `Instr.onPort`.
`asmCancel` runs inside CLOSE, which has by then cleared `connected` (R182), so its row has none (log 16). -/
def Instr.condition (v : View) : Instr → Bool
  | .rxpush _ => !v.connected || !v.rxFull
  | .rxpushOvf _ => v.connected && v.rxFull
  | .rxerr _ => true
  | .rxioerr => true
  | .asmSync => v.connected && v.fidx == 0
  | .asmAck b => v.connected && v.fidx == 0 && b != Config.sync && v.waitingForAck
  | .asmDrop b => v.connected && v.fidx == 0 && b != Config.sync && !v.waitingForAck
  | .asmFill _ => v.connected && v.fidx != 0 && v.fidx != 5
  | .asmLast _ => v.connected && v.fidx == 5
  | .asmCancel => true
  | .clsCrcerr f => !f.valid
  | .clsSuspend f => f.valid && f.get Config.ctrlPos == v.params.suspendByte
  | .clsResume f =>
    f.valid && f.get Config.ctrlPos != v.params.suspendByte && f.get Config.ctrlPos == v.params.resumeByte
  | .clsOk f =>
    f.valid && f.get Config.ctrlPos != v.params.suspendByte && f.get Config.ctrlPos != v.params.resumeByte &&
      accepted v.params v.ownAddr f
  | .clsNfu f =>
    f.valid && f.get Config.ctrlPos != v.params.suspendByte && f.get Config.ctrlPos != v.params.resumeByte &&
      !accepted v.params v.ownAddr f
  | .tickNop => v.tickIdle
  | .tickPoll _ => !v.tickIdle
  | .tickAcked f => !v.tickIdle && decide (0 < v.headRetries) && v.ackMatches f
  | .tickRetry f => !v.tickIdle && decide (0 < v.headRetries) && !v.ackMatches f
  | .tickExhaust _ => !v.tickIdle && v.headRetries == 0
  | .tickTxfail .poll _ => !v.tickIdle
  | .tickTxfail .command f => !v.tickIdle && decide (0 < v.headRetries) && !v.ackMatches f
  | .sendP _ => true
  | .sendC _ => true
  | .connect _ _ => true
  | .close => true
  | .isconn => true
  | .ladd _ => true
  | .lrem _ => true
  | .reset => true

/-- The interface an operation is selected on, with the draw it needs (R82: POLL and RETRY on `ok`, TXFAIL on
`fail`; NOP, ACKED and EXHAUST write nothing, so any draw) and the operands that are no bits. -/
def Instr.onPort : Instr → Port → Bool
  | .rxpush _, .rx => true
  | .rxpushOvf _, .rx => true
  | .rxerr _, .rxErr => true
  | .rxioerr, .rxIo => true
  | .asmSync, .asm => true
  | .asmAck _, .asm => true
  | .asmDrop _, .asm => true
  | .asmFill _, .asm => true
  | .asmLast _, .asm => true
  | .asmCancel, .cancel => true
  | .clsCrcerr _, .cls => true
  | .clsSuspend _, .cls => true
  | .clsResume _, .cls => true
  | .clsOk _, .cls => true
  | .clsNfu _, .cls => true
  | .tickNop, .tick _ => true
  | .tickPoll _, .tick w => w == .ok
  | .tickAcked _, .tick _ => true
  | .tickRetry _, .tick w => w == .ok
  | .tickExhaust _, .tick _ => true
  | .tickTxfail _ _, .tick w => w == .fail
  | .sendP _, .send => true
  | .sendC _, .send => true
  | .connect _ o, .connect o' => o == o'
  | .close, .close => true
  | .isconn, .isconn => true
  | .ladd l, .ladd l' => l == l'
  | .lrem l, .lrem l' => l == l'
  | .reset, .reset => true
  | _, _ => false

/-- A byte arrives on RX (R83): connected and full is the overflow, everything else is queued or ignored. -/
def decodeArrival (v : View) (b : Byte) : Instr :=
  if v.connected && v.rxFull then .rxpushOvf b else .rxpush b

/-- The byte at the head of RXQ (R80, R84). -/
def decodeByte (v : View) (b : Byte) : Decoded :=
  if !v.connected then .rejected .assemblerOff
  else if v.fidx = 0 then
    if b = Config.sync then .op .asmSync
    else if v.waitingForAck then .op (.asmAck b)
    else .op (.asmDrop b)
  else if v.fidx = 5 then .op (.asmLast b)
  else .op (.asmFill b)

/-- A completed frame (R81). -/
def decodeFrame (v : View) (f : Frame) : Decoded :=
  if f.classified then .op ((classify v.params v.ownAddr f).op f) else .rejected .noSync

/-- The `kind` bit of format Q in a byte of its own (R72, log 22). -/
def decodeKind (b : Byte) : Option Kind :=
  if b = 0 then some .poll else if b = 1 then some .command else none

/-- The head item at a tick that has something to do (R82, R153): poll or command; then retries left or exhausted;
then the ack comparison; then the write's draw. -/
def decodeItem (w : Draw) (v : View) (k : Kind) (f : Frame) : Instr :=
  match k with
  | .poll =>
    match w with
    | .ok => .tickPoll f
    | .fail => .tickTxfail .poll f
  | .command =>
    if v.headRetries = 0 then .tickExhaust f
    else if v.ackMatches f then .tickAcked f
    else
      match w with
      | .ok => .tickRetry f
      | .fail => .tickTxfail .command f

/-- A `sendTelegram` call (R83): the operation is the telegram's tag. -/
def decodeSend (k : Kind) (f : Frame) : Instr :=
  match k with
  | .poll => .sendP f
  | .command => .sendC f

/-- A unit of format F: six bytes in wire order (R47, R70). -/
def unitFrame : List Byte → Option Frame
  | [a, b, c, d, e, g] => some ⟨a, b, c, d, e, g⟩
  | _ => none

/-- A unit of format Q: the kind byte and six bytes (R72, log 22). -/
def unitItem : List Byte → Except Reject (Kind × Frame)
  | [k, a, b, c, d, e, g] =>
    match decodeKind k with
    | some kind => .ok (kind, ⟨a, b, c, d, e, g⟩)
    | none => .error .badKind
  | _ => .error .wrongLength

/-- The operation an interface's unit of bytes selects (R80 to R83). Total; a unit that no row admits is rejected
by name. -/
def decode (p : Port) (v : View) (u : List Byte) : Decoded :=
  match p, u with
  | .rx, [b] => .op (decodeArrival v b)
  | .rxErr, [k] => .op (.rxerr k)
  | .rxIo, [] => .op .rxioerr
  | .asm, [b] => decodeByte v b
  | .cls, u =>
    match unitFrame u with
    | some f => decodeFrame v f
    | none => .rejected .wrongLength
  | .cancel, [] => .op .asmCancel
  | .tick w, u =>
    if v.tickIdle then .op .tickNop
    else
      match unitItem u with
      | .ok (k, f) => .op (decodeItem w v k f)
      | .error r => .rejected r
  | .send, u =>
    match unitItem u with
    | .ok (k, f) => .op (decodeSend k f)
    | .error r => .rejected r
  | .connect o, [panelId] => .op (.connect panelId o)
  | .close, [] => .op .close
  | .isconn, [] => .op .isconn
  | .ladd l, [] => .op (.ladd l)
  | .lrem l, [] => .op (.lrem l)
  | .reset, [] => .op .reset
  | _, _ => .rejected .wrongLength

/-- The unit of bytes of an operation: its row's bits (formats B, F, Q, C of R70 to R73), empty where the row has
none (R83). -/
def encode : Instr → List Byte
  | .rxpush b => [b]
  | .rxpushOvf b => [b]
  | .rxerr k => [k]
  | .rxioerr => []
  | .asmSync => [Config.sync]
  | .asmAck b => [b]
  | .asmDrop b => [b]
  | .asmFill b => [b]
  | .asmLast b => [b]
  | .asmCancel => []
  | .clsCrcerr f => f.bytes
  | .clsSuspend f => f.bytes
  | .clsResume f => f.bytes
  | .clsOk f => f.bytes
  | .clsNfu f => f.bytes
  | .tickNop => []
  | .tickPoll f => itemBytes .poll f
  | .tickAcked f => itemBytes .command f
  | .tickRetry f => itemBytes .command f
  | .tickExhaust f => itemBytes .command f
  | .tickTxfail k f => itemBytes k f
  | .sendP f => itemBytes .poll f
  | .sendC f => itemBytes .command f
  | .connect panelId _ => [panelId]
  | .close => []
  | .isconn => []
  | .ladd _ => []
  | .lrem _ => []
  | .reset => []

/-- The number of bytes of the unit of an operation: its row's `unit_bits` in whole bytes (1, 6, 7, or none). -/
def unitBytes : Instr → Nat
  | .rxpush _ => 1
  | .rxpushOvf _ => 1
  | .rxerr _ => 1
  | .rxioerr => 0
  | .asmSync => 1
  | .asmAck _ => 1
  | .asmDrop _ => 1
  | .asmFill _ => 1
  | .asmLast _ => 1
  | .asmCancel => 0
  | .clsCrcerr _ => 6
  | .clsSuspend _ => 6
  | .clsResume _ => 6
  | .clsOk _ => 6
  | .clsNfu _ => 6
  | .tickNop => 0
  | .tickPoll _ => 7
  | .tickAcked _ => 7
  | .tickRetry _ => 7
  | .tickExhaust _ => 7
  | .tickTxfail _ _ => 7
  | .sendP _ => 7
  | .sendC _ => 7
  | .connect _ _ => 1
  | .close => 0
  | .isconn => 0
  | .ladd _ => 0
  | .lrem _ => 0
  | .reset => 0

/-- The view under which a bare table word is read (log 4): a connected engine in hunt state that is not waiting
for an acknowledgement, with nothing queued, `ownAddr` as in `State.reset`. DESIGN CHOICE. -/
def huntView : View where
  connected := true
  waitingForAck := false
  suspended := false
  ackValid := false
  ackByte := 0
  ownAddr := 0
  fidx := 0
  rxFull := false
  txEmpty := true
  headRetries := 0
  params := Config.params

/-- The frame in bits 47..0 of a table word (R47). -/
def tableFrame (w : Nat) : Frame := Frame.unpack (BitVec.ofNat 48 w)

/-- A bare table word, its bits numbered as spec/opcode_table.json numbers them. The rows of one format share their
bits, so the format decides the interface: 8 bits are the byte at the head of RXQ in hunt state (R84), 48 bits a
completed frame (R81), 49 bits (or 56, whole bytes) a `sendTelegram` call (R72). A row without bits has no word.
DESIGN CHOICE, log 4. -/
def decodeTableWord (nbits w : Nat) : Option Instr :=
  if nbits = 8 ∧ w < 2 ^ 8 then (decode .asm huntView [BitVec.ofNat 8 w]).toOption
  else if nbits = 48 ∧ w < 2 ^ 48 then (decode .cls huntView (tableFrame w).bytes).toOption
  else if (nbits = 49 ∨ nbits = 56) ∧ w < 2 ^ 49 then
    (decode .send huntView (BitVec.ofNat 8 (w / 2 ^ 48) :: (tableFrame w).bytes)).toOption
  else none

end Sys2Proof
end

