-- ==== Sys2Proof/Machine/State.lean ====
section
/-! DEFINITION. The state of one engine instance (10_state.md), its value types, and the state after reset. -/

namespace Sys2Proof.Machine

/-- The tag of a telegram (R10). `poll` and `command` tag outbound telegrams only and are never emitted (R76). -/
inductive Tag where
  | ok
  | crcError
  | suspend
  | resume
  | notForUs
  | ack
  | poll
  | command
  deriving DecidableEq, Repr

/-- The error causes with the datum each records (R77, R200). -/
inductive Err where
  /-- E_RXQ_OVERFLOW, raised by RXPUSH.OVF. -/
  | rxqOverflow
  /-- E_ACK_NOT_RECEIVED, raised by TICK.EXHAUST. -/
  | ackNotReceived (bytes : Frame)
  /-- E_TX_WRITE_FAILED, raised by TICK.TXFAIL. -/
  | txWriteFailed (bytes : Frame)
  /-- E_LINE_ERROR, raised by RXERR; the kind is opaque (U8, log 19). -/
  | lineError (kind : Byte)
  /-- E_RX_IO, raised by RXIOERR. -/
  | rxIo
  /-- E_CANCELLED, raised by ASM.CANCEL inside CLOSE. -/
  | cancelled
  /-- E_TXQ_FULL, raised by SEND.P and SEND.C. -/
  | txqFull (bytes : Frame)
  deriving DecidableEq, Repr

/-- An event: a telegram `(tag, payload)` or an error (R21, R77). Its record layout is `Event.record`. -/
inductive Event where
  | telegram (tag : Tag) (payload : Option Frame)
  | error (e : Err)
  deriving DecidableEq, Repr

/-- One entry of EVT: the event, and the listeners it was delivered to, which are those registered at that step
(R207). The list is a set in rising order: the order of notification is not specified (U5, log 12). -/
structure Notice where
  event : Event
  notified : List Listener
  deriving DecidableEq, Repr

/-- A send-queue item (R11, R72). -/
structure Item where
  kind : Kind
  bytes : Frame
  retries : Nat
  deriving DecidableEq, Repr

/-- One entry of TXW: the frame handed to the transport and the drawn result (R21). -/
structure TxRecord where
  bytes : Frame
  result : Draw
  deriving DecidableEq, Repr

/-- A value returned to the host: CONNECT's (R181) or ISCONN's (R183). -/
inductive Return where
  | connect (o : OpenResult)
  | isconn (connected : Bool)
  deriving DecidableEq, Repr

/-- The state. The fields from `ret` on are the model's own: the returned values, the stimuli still to come
(log 1), the counter of the free values (log 8) and the parameters, which no step changes (log 5). -/
structure State where
  /-- R12. -/
  connected : Bool
  /-- R13. -/
  waitingForAck : Bool
  /-- R14. -/
  suspended : Bool
  /-- R15. -/
  ackValid : Bool
  /-- R15; never compared while `ackValid` is false. -/
  ackByte : Byte
  /-- R16. -/
  ownAddr : Byte
  /-- `FR[0..5]` (R17). -/
  fr : Frame
  /-- `FIDX` (R17): 0 is the hunt state. -/
  fidx : Fin Config.frameLen
  /-- RXQ, head first (R18). -/
  rxq : List Byte
  /-- TXQ, head first (R19). -/
  txq : List Item
  /-- LISTENERS as a strictly rising list (R20, log 12). -/
  listeners : List Listener
  /-- EVT, oldest first (R21). -/
  evt : List Notice
  /-- TXW, oldest first (R21). -/
  txw : List TxRecord
  /-- Values returned by CONNECT and ISCONN, oldest first (00_scope.md section 6, log 11). -/
  ret : List Return
  /-- The stimuli not yet taken, next first (R86, log 1). -/
  script : List Stimulus
  /-- How many free values have been taken (log 8). -/
  freeCount : Nat
  /-- R6, R7, R8 (log 5). -/
  params : Params
  deriving DecidableEq, Repr

/-- Why the machine stops with a fault: never. The block has neither a fault nor a stuck state (R206,
93_implementation_defined.md introduction), so this type has no constructor. Log 20. -/
inductive Fault where
  deriving DecidableEq, Repr

/-- Why no meaning is given. -/
inductive Refusal where
  /-- Raised by `exec`'s arm of an operation that has no meaning yet. Safe. -/
  | notModelled (mnemonic : String)
  /-- Raised by the meaning of an operation asked for in a state where its selecting condition (R80 to R83) is
  false: the block has no such step. `step` never raises it. Safe: no claim about a next state follows. Log 13. -/
  | notEnabled
  /-- Raised by `step` for a unit of bits that no row admits; no stimulus produces one. Safe. Log 22. -/
  | undecodable
  deriving DecidableEq, Repr

/-- What every meaning and the step answer. -/
abbrev Result := Host.Outcome State Fault Refusal

/-- The state after reset (R241). `ackByte`, `ownAddr` and `fr` are unspecified there: 0, DESIGN CHOICE, log 7
(unsafe). The model's own fields: nothing scripted, nothing returned, no free value taken, the parameters of
`Config.params` (log 6). -/
def State.reset : State where
  connected := false
  waitingForAck := false
  suspended := false
  ackValid := false
  ackByte := 0
  ownAddr := 0
  fr := ⟨0, 0, 0, 0, 0, 0⟩
  fidx := 0
  rxq := []
  txq := []
  listeners := []
  evt := []
  txw := []
  ret := []
  script := []
  freeCount := 0
  params := Config.params

end Sys2Proof.Machine
end

