-- ==== Sys2Proof/Machine/Flags.lean ====
section
/-! DEFINITION. What is computed from the state and not stored: the fullness of the queues, the operating mode
(R208), the view the operation map reads, and whether an operation is enabled. -/

namespace Sys2Proof.Machine

/-- `|RXQ| = RXQ_CAP` (R102). The comparison is `≥`; no run exceeds the capacity (R25, log 24). -/
def State.rxFull (s : State) : Bool := decide (s.params.rxqCap ≤ s.rxq.length)

/-- `|TXQ| = TXQ_CAP`, never when the capacity is unbounded (R44, R151). `≥` as above. -/
def State.txFull (s : State) : Bool :=
  match s.params.txqCap with
  | none => false
  | some c => decide (c ≤ s.txq.length)

/-- The retry counter of the head item, 0 when TXQ is empty. -/
def State.headRetries (s : State) : Nat :=
  match s.txq with
  | [] => 0
  | it :: _ => it.retries

/-- What the operation map reads of the state. -/
def State.view (s : State) : View where
  connected := s.connected
  waitingForAck := s.waitingForAck
  suspended := s.suspended
  ackValid := s.ackValid
  ackByte := s.ackByte
  ownAddr := s.ownAddr
  fidx := s.fidx
  rxFull := s.rxFull
  txEmpty := s.txq.isEmpty
  headRetries := s.headRetries
  params := s.params

/-- The three operating modes (R208): values of two flags, not state of their own. -/
inductive Mode where
  | disconnected
  | running
  | suspended
  deriving DecidableEq, Repr

/-- The mode of a state (R208). -/
def State.mode (s : State) : Mode :=
  if s.connected then (if s.suspended then .suspended else .running) else .disconnected

/-- The head of RXQ is `b` (the operand of an assembler step, R110). -/
def State.rxHeadIs (s : State) (b : Byte) : Bool := s.rxq.head? == some b

/-- The head of TXQ is an item of kind `k` with bytes `f` (the operand of a tick, R82). -/
def State.txHeadIs (s : State) (k : Kind) (f : Frame) : Bool :=
  match s.txq with
  | [] => false
  | it :: _ => it.kind == k && it.bytes == f

/-- The operand bits of an operation are where the operation takes them from: the head of RXQ (R110), `FR[0..5]`
(R115, log 15), the head of TXQ (R82). Bits of an interface event are the event's own. -/
def State.holdsOperand (s : State) : Instr → Bool
  | .rxpush _ => true
  | .rxpushOvf _ => true
  | .rxerr _ => true
  | .rxioerr => true
  | .asmSync => s.rxHeadIs Config.sync
  | .asmAck b => s.rxHeadIs b
  | .asmDrop b => s.rxHeadIs b
  | .asmFill b => s.rxHeadIs b
  | .asmLast b => s.rxHeadIs b
  | .asmCancel => true
  | .clsCrcerr f => s.fr == f
  | .clsSuspend f => s.fr == f
  | .clsResume f => s.fr == f
  | .clsOk f => s.fr == f
  | .clsNfu f => s.fr == f
  | .tickNop => true
  | .tickPoll f => s.txHeadIs .poll f
  | .tickAcked f => s.txHeadIs .command f
  | .tickRetry f => s.txHeadIs .command f
  | .tickExhaust f => s.txHeadIs .command f
  | .tickTxfail k f => s.txHeadIs k f
  | .sendP _ => true
  | .sendC _ => true
  | .connect _ _ => true
  | .close => true
  | .isconn => true
  | .ladd _ => true
  | .lrem _ => true
  | .reset => true

/-- The operation is selected in this state: its row's condition holds and its operand is there (R80 to R83). -/
def State.enables (s : State) (i : Instr) : Bool := i.condition s.view && s.holdsOperand i

/-- An assembler byte step is enabled (R110). -/
def State.asmEnabled (s : State) : Bool := s.connected && !s.rxq.isEmpty

end Sys2Proof.Machine
end

