-- ==== Sys2Proof/Machine/Ops.lean ====
section
/-! DEFINITION. The named operations on the state (00_scope.md 7.2): the queues, the frame register, the traces,
reporting an event (this block's only form of an exception, R205), the free values, and the guard of a meaning.

There is no return from an exception: nothing is entered (R206). -/

namespace Sys2Proof.Machine

/-- `RXQ.put(b)` (R41): at the tail. -/
def rxqPut (b : Byte) (s : State) : State := { s with rxq := s.rxq ++ [b] }

/-- `RXQ.take()` (R42): the head leaves. The byte taken is the operand of the step. -/
def rxqTake (s : State) : State := { s with rxq := s.rxq.tail }

/-- `RXQ.clear()` (R43). -/
def rxqClear (s : State) : State := { s with rxq := [] }

/-- `TXQ.pushBack(it)` (R44): at the tail. -/
def txqPushBack (it : Item) (s : State) : State := { s with txq := s.txq ++ [it] }

/-- `TXQ.popFront()` (R45): the head item leaves and is handed to the rest of the step; nothing on an empty queue. -/
def txqPop (s : State) (rest : Item → State → State) : State :=
  match s.txq with
  | [] => s
  | it :: q => rest it { s with txq := q }

/-- `TXQ.pushFront(it)` (R45): before the head. -/
def txqPushFront (it : Item) (s : State) : State := { s with txq := it :: s.txq }

/-- `TXQ.clear()` (R46). -/
def txqClear (s : State) : State := { s with txq := [] }

/-- `TxWrite(F)` with its drawn result: appended to TXW (R21, R159). -/
def txWrite (f : Frame) (w : Draw) (s : State) : State := { s with txw := s.txw ++ [⟨f, w⟩] }

/-- Appends an event to EVT and delivers it to every listener registered at this step (R205, R207). -/
def post (e : Event) (s : State) : State := { s with evt := s.evt ++ [⟨e, s.listeners⟩] }

/-- `emit Telegram(tag, payload)` (00_scope.md 7.2). -/
def emitTelegram (tag : Tag) (payload : Option Frame) (s : State) : State := post (.telegram tag payload) s

/-- `raise Err(code, info)` (R205): nothing is saved, no mode changes, no vector is consulted; the step goes on. -/
def raiseErr (e : Err) (s : State) : State := post (.error e) s

/-- A value returned to the host (R181, R183). -/
def giveBack (r : Return) (s : State) : State := { s with ret := s.ret ++ [r] }

/-- `FR[i] <- v` (R17). -/
def frWrite (i : Fin Config.frameLen) (v : Byte) (s : State) : State := { s with fr := s.fr.set i v }

/-- `FIDX <- n` (R17). -/
def fidxWrite (n : Fin Config.frameLen) (s : State) : State := { s with fidx := n }

/-- The six bytes of FR become unspecified (R241, U1): free values. Log 8. -/
def freeFr (s : State) : State :=
  { s with
    fr := ⟨Config.freeByte s.freeCount, Config.freeByte (s.freeCount + 1), Config.freeByte (s.freeCount + 2),
      Config.freeByte (s.freeCount + 3), Config.freeByte (s.freeCount + 4), Config.freeByte (s.freeCount + 5)⟩
    freeCount := s.freeCount + 6 }

/-- `ackByte` becomes unspecified (R241, U1): a free value. Log 8. -/
def freeAckByte (s : State) : State :=
  { s with ackByte := Config.freeByte s.freeCount, freeCount := s.freeCount + 1 }

/-- `ownAddr` becomes unspecified (R241, U1): a free value. Log 8. -/
def freeOwnAddr (s : State) : State :=
  { s with ownAddr := Config.freeByte s.freeCount, freeCount := s.freeCount + 1 }

/-- `{l} ∪ L` on rising lists (R184). -/
def insertListener (l : Listener) : List Listener → List Listener
  | [] => [l]
  | x :: xs => if l < x then l :: x :: xs else if l = x then x :: xs else x :: insertListener l xs

/-- `L \ {l}` (R185). -/
def eraseListener (l : Listener) (ls : List Listener) : List Listener := ls.filter (· ≠ l)

/-- An item as SEND queues it: the retry budget is `RETRY_N` (R11, R151, R152). -/
def newItem (k : Kind) (f : Frame) (s : State) : Item := ⟨k, f, s.params.retryN⟩

/-- `sendTelegram` (R151, R152): dropped while disconnected, refused with an error when TXQ is full, else queued. -/
def sendItem (k : Kind) (f : Frame) (s : State) : State :=
  if !s.connected then s
  else if s.txFull then raiseErr (.txqFull f) s
  else txqPushBack (newItem k f s) s

/-- The guard of a meaning whose operation is selected by the state: where the selecting condition is false the
block has no such step (log 13). -/
def whenEnabled (i : Instr) (s : State) (effect : State) : Result :=
  if s.enables i then .next effect else .refused .notEnabled

end Sys2Proof.Machine
end

