-- ==== Sys2Proof/Machine/Classifier.lean ====
section
/-! DEFINITION. The frame classifier (42_classifier.md): the five CLS operations, and `Classify` as ASM.LAST runs
it. Each is performed on the completed frame `FR[0..5]` (log 15). -/

namespace Sys2Proof.Machine

/-- CLS.CRCERR (R132): the frame is reported, no flag is written. -/
def execClsCrcerr (f : Frame) (s : State) : Result :=
  whenEnabled (.clsCrcerr f) s (emitTelegram .crcError (some f) s)

/-- CLS.SUSPEND (R133): a telegram without payload; `suspended` set. -/
def execClsSuspend (f : Frame) (s : State) : Result :=
  whenEnabled (.clsSuspend f) s { emitTelegram .suspend none s with suspended := true }

/-- CLS.RESUME (R134): a telegram without payload; `suspended` cleared. -/
def execClsResume (f : Frame) (s : State) : Result :=
  whenEnabled (.clsResume f) s { emitTelegram .resume none s with suspended := false }

/-- CLS.OK (R135). -/
def execClsOk (f : Frame) (s : State) : Result :=
  whenEnabled (.clsOk f) s (emitTelegram .ok (some f) s)

/-- CLS.NFU (R136): reported, not dropped. -/
def execClsNfu (f : Frame) (s : State) : Result :=
  whenEnabled (.clsNfu f) s (emitTelegram .notForUs (some f) s)

/-- `Classify(FR[0..5])` (R131): exactly one CLS operation is performed. -/
def runClassifier (s : State) : Result :=
  match classify s.params s.ownAddr s.fr with
  | .crcError => execClsCrcerr s.fr s
  | .suspend => execClsSuspend s.fr s
  | .resume => execClsResume s.fr s
  | .ok => execClsOk s.fr s
  | .notForUs => execClsNfu s.fr s

end Sys2Proof.Machine
end

