-- ==== Sys2Proof/Machine/Assembler.lean ====
section
/-! DEFINITION. The frame assembler (41_assembler.md): ASM.SYNC, ASM.ACK, ASM.DROP, ASM.FILL, ASM.LAST,
ASM.CANCEL. -/

namespace Sys2Proof.Machine

/-- ASM.SYNC (R111): the sync byte starts a candidate frame. -/
def execAsmSync (s : State) : Result :=
  whenEnabled .asmSync s (fidxWrite 1 (frWrite 0 Config.sync (rxqTake s)))

/-- ASM.ACK (R112): the stray byte is recorded, whatever its value. -/
def execAsmAck (b : Byte) (s : State) : Result :=
  whenEnabled (.asmAck b) s { rxqTake s with ackByte := b, ackValid := true, waitingForAck := false }

/-- ASM.DROP (R113): the stray byte is discarded. -/
def execAsmDrop (b : Byte) (s : State) : Result :=
  whenEnabled (.asmDrop b) s (rxqTake s)

/-- ASM.FILL (R114): bytes 1 to 4 are stored unexamined. -/
def execAsmFill (b : Byte) (s : State) : Result :=
  whenEnabled (.asmFill b) s (fidxWrite (s.fidx + 1) (frWrite s.fidx b (rxqTake s)))

/-- ASM.LAST (R115): the sixth byte completes the frame, which is classified in the same step. -/
def execAsmLast (b : Byte) (s : State) : Result :=
  if s.enables (.asmLast b) then runClassifier (fidxWrite 0 (frWrite 5 b (rxqTake s)))
  else .refused .notEnabled

/-- The effect of ASM.CANCEL (R116): a begun frame is abandoned and the cancellation reported once. -/
def cancelAssembler (s : State) : State := raiseErr .cancelled (fidxWrite 0 s)

/-- ASM.CANCEL (R116). It is performed inside CLOSE, after `connected` has been cleared (R182, log 16). -/
def execAsmCancel (s : State) : Result := .next (cancelAssembler s)

end Sys2Proof.Machine
end

