-- ==== Sys2Proof/Machine/HostOps.lean ====
section
/-! DEFINITION. The engine boundary (44_host.md): CONNECT, CLOSE, ISCONN, LADD, LREM. -/

namespace Sys2Proof.Machine

/-- The initialisation of a successful CONNECT (R181): queues, position and flags as at reset, `ownAddr` loaded.
`ackByte` and `fr` are unspecified afterwards (10_state.md section 11, U1): free values, log 8. -/
def startEngine (panelId : Byte) (s : State) : State :=
  { freeFr (freeAckByte (fidxWrite 0 (txqClear (rxqClear s)))) with
    waitingForAck := false
    suspended := false
    ackValid := false
    ownAddr := panelId
    connected := true }

/-- CONNECT (R181): a no-op returning `ok` while connected; a failed open changes nothing. -/
def execConnect (panelId : Byte) (o : OpenResult) (s : State) : Result :=
  if s.connected then .next (giveBack (.connect .ok) s)
  else
    match o with
    | .fail reason => .next (giveBack (.connect (.fail reason)) s)
    | .ok => .next (giveBack (.connect .ok) (startEngine panelId s))

/-- CLOSE (R182): clears `connected` and cancels the assembler; a no-op when closed. Everything else keeps its
value (U16). -/
def execClose (s : State) : Result :=
  if s.connected then execAsmCancel { s with connected := false } else .next s

/-- ISCONN (R183). -/
def execIsconn (s : State) : Result := .next (giveBack (.isconn s.connected) s)

/-- LADD (R184). -/
def execLadd (l : Listener) (s : State) : Result := .next { s with listeners := insertListener l s.listeners }

/-- LREM (R185). -/
def execLrem (l : Listener) (s : State) : Result := .next { s with listeners := eraseListener l s.listeners }

end Sys2Proof.Machine
end

