-- ==== Sys2Proof/Machine/Intake.lean ====
section
/-! DEFINITION. Transport intake (40_intake.md): RXPUSH, RXPUSH.OVF, RXERR, RXIOERR. -/

namespace Sys2Proof.Machine

/-- RXPUSH (R101): queued while connected, ignored otherwise. -/
def execRxpush (b : Byte) (s : State) : Result :=
  whenEnabled (.rxpush b) s (if s.connected then rxqPut b s else s)

/-- RXPUSH.OVF (R102): the queue is cleared, the byte discarded, one error raised; FR and FIDX stay. -/
def execRxpushOvf (b : Byte) (s : State) : Result :=
  whenEnabled (.rxpushOvf b) s (raiseErr .rxqOverflow (rxqClear s))

/-- RXERR (R103): reported while connected. -/
def execRxerr (k : Byte) (s : State) : Result :=
  .next (if s.connected then raiseErr (.lineError k) s else s)

/-- RXIOERR (R104): reported while connected; nothing is cleared. -/
def execRxioerr (s : State) : Result :=
  .next (if s.connected then raiseErr .rxIo s else s)

end Sys2Proof.Machine
end

