-- ==== Sys2Proof/Machine/Reset.lean ====
section
/-! DEFINITION. The RESET operation (70_reset_and_hazards.md section 1). -/

namespace Sys2Proof.Machine

/-- RESET (R242): no event; the histories are kept (R241, log 10), and so are the stimuli still to come and the
parameters (R244). `ackByte`, `ownAddr`, `fr` become unspecified: free values, log 8. -/
def execReset (s : State) : Result :=
  .next
    { freeFr (freeOwnAddr (freeAckByte (fidxWrite 0 (txqClear (rxqClear s))))) with
      connected := false
      waitingForAck := false
      suspended := false
      ackValid := false
      listeners := [] }

end Sys2Proof.Machine
end

