-- ==== Sys2Proof/Machine/Scheduler.lean ====
section
/-! DEFINITION. The send queue and its scheduler (43_scheduler.md): the six outcomes of a tick, SEND.P, SEND.C. -/

namespace Sys2Proof.Machine

/-- TICK.NOP (R154): disconnected, suspended, or nothing queued. -/
def execTickNop (s : State) : Result := whenEnabled .tickNop s s

/-- TICK.POLL (R155): written once and done. -/
def execTickPoll (f : Frame) (s : State) : Result :=
  whenEnabled (.tickPoll f) s (txqPop s fun it s1 => txWrite it.bytes .ok s1)

/-- TICK.ACKED (R156): the command is done; `ackByte` and `ackValid` stay. -/
def execTickAcked (f : Frame) (s : State) : Result :=
  whenEnabled (.tickAcked f) s
    (txqPop s fun it s1 => emitTelegram .ack (some it.bytes) { s1 with waitingForAck := false })

/-- TICK.RETRY (R157): written and put back at the head with one retry less. -/
def execTickRetry (f : Frame) (s : State) : Result :=
  whenEnabled (.tickRetry f) s
    (txqPop s fun it s1 =>
      txqPushFront { it with retries := it.retries - 1 } (txWrite it.bytes .ok { s1 with waitingForAck := true }))

/-- TICK.EXHAUST (R158): the command is dropped with an error; nothing is written. -/
def execTickExhaust (f : Frame) (s : State) : Result :=
  whenEnabled (.tickExhaust f) s (txqPop s fun it s1 => raiseErr (.ackNotReceived it.bytes) s1)

/-- TICK.TXFAIL (R159): the write fails, TXQ is cleared, one error; a command leaves `waitingForAck` set. -/
def execTickTxfail (k : Kind) (f : Frame) (s : State) : Result :=
  whenEnabled (.tickTxfail k f) s
    (txqPop s fun it s1 =>
      raiseErr (.txWriteFailed it.bytes) (txqClear (txWrite it.bytes .fail
        (if it.kind = .command then { s1 with waitingForAck := true } else s1))))

/-- SEND.P (R151). -/
def execSendP (f : Frame) (s : State) : Result := .next (sendItem .poll f s)

/-- SEND.C (R152). -/
def execSendC (f : Frame) (s : State) : Result := .next (sendItem .command f s)

end Sys2Proof.Machine
end

