-- ==== Sys2Proof/Machine/Dispatch.lean ====
section
/-! DEFINITION. One arm per operation of spec/opcode_table.json. -/

namespace Sys2Proof.Machine

def exec (i : Instr) (s : State) : Host.Outcome State Fault Refusal :=
  match i with
  | .rxpush b => Sys2Proof.Machine.execRxpush b s
  | .rxpushOvf b => Sys2Proof.Machine.execRxpushOvf b s
  | .rxerr k => Sys2Proof.Machine.execRxerr k s
  | .rxioerr => Sys2Proof.Machine.execRxioerr s
  | .asmSync => Sys2Proof.Machine.execAsmSync s
  | .asmAck b => Sys2Proof.Machine.execAsmAck b s
  | .asmDrop b => Sys2Proof.Machine.execAsmDrop b s
  | .asmFill b => Sys2Proof.Machine.execAsmFill b s
  | .asmLast b => Sys2Proof.Machine.execAsmLast b s
  | .asmCancel => Sys2Proof.Machine.execAsmCancel s
  | .clsCrcerr f => Sys2Proof.Machine.execClsCrcerr f s
  | .clsSuspend f => Sys2Proof.Machine.execClsSuspend f s
  | .clsResume f => Sys2Proof.Machine.execClsResume f s
  | .clsOk f => Sys2Proof.Machine.execClsOk f s
  | .clsNfu f => Sys2Proof.Machine.execClsNfu f s
  | .tickNop => Sys2Proof.Machine.execTickNop s
  | .tickPoll f => Sys2Proof.Machine.execTickPoll f s
  | .tickAcked f => Sys2Proof.Machine.execTickAcked f s
  | .tickRetry f => Sys2Proof.Machine.execTickRetry f s
  | .tickExhaust f => Sys2Proof.Machine.execTickExhaust f s
  | .tickTxfail k f => Sys2Proof.Machine.execTickTxfail k f s
  | .sendP f => Sys2Proof.Machine.execSendP f s
  | .sendC f => Sys2Proof.Machine.execSendC f s
  | .connect panelId o => Sys2Proof.Machine.execConnect panelId o s
  | .close => Sys2Proof.Machine.execClose s
  | .isconn => Sys2Proof.Machine.execIsconn s
  | .ladd l => Sys2Proof.Machine.execLadd l s
  | .lrem l => Sys2Proof.Machine.execLrem l s
  | .reset => Sys2Proof.Machine.execReset s

end Sys2Proof.Machine
end

