-- ==== Sys2Proof/Machine/Fetch.lean ====
section
/-! DEFINITION. Where the unit of bits of the next step comes from: the stimulus itself, the head of RXQ, or the
head of TXQ (R80 to R83); and the pseudo-operations of the script notation (R86). -/

namespace Sys2Proof.Machine

/-- The bits a tick is selected by: the head item of TXQ, none when it is empty (R82). -/
def tickUnit (s : State) : List Byte :=
  match s.txq with
  | [] => []
  | it :: _ => itemBytes it.kind it.bytes

/-- The interface and the unit of a stimulus. `none`: an assembler step that is not enabled, because the engine is
not connected or RXQ is empty, so that the assembler waits (R110). -/
def fetch (e : Stimulus) (s : State) : Option (Port × List Byte) :=
  match e with
  | .rxb b => some (.rx, [b])
  | .rxerr k => some (.rxErr, [k])
  | .rxioerr => some (.rxIo, [])
  | .asm => if s.asmEnabled then some (.asm, s.rxq.take 1) else none
  | .tick w => some (.tick w, tickUnit s)
  | .sendP f => some (.send, itemBytes .poll f)
  | .sendC f => some (.send, itemBytes .command f)
  | .connect panelId o => some (.connect o, [panelId])
  | .close => some (.close, [])
  | .isconn => some (.isconn, [])
  | .ladd l => some (.ladd l, [])
  | .lrem l => some (.lrem l, [])
  | .reset => some (.reset, [])

/-- The stimulus the next step takes: the head of the script; when the script is exhausted, the assembler's own
step (R56, log 2). -/
def nextStimulus (s : State) : Stimulus :=
  match s.script with
  | [] => .asm
  | e :: _ => e

/-- The state with the taken stimulus gone from the script. -/
def dropStimulus (s : State) : State := { s with script := s.script.tail }

/-- Pseudo-operation `RX b0 b1 ...` (R86): one RXB a byte, in order. -/
def scriptRx (bs : List Byte) : List Stimulus := bs.map .rxb

/-- Pseudo-operation `ASM*` (R86) on a queue of `n` bytes: `ASM` repeated until RXQ is empty, one byte a step. -/
def scriptAsmAll (n : Nat) : List Stimulus := List.replicate n .asm

/-- The frame of pseudo-operation `FRAME a d v x` (R86): SYNC in front and its checksum behind. -/
def frameOf (a d v x : Byte) : Frame :=
  let f : Frame := ⟨Config.sync, a, d, v, x, 0⟩
  { f with cks := checksum f }

/-- Pseudo-operation `FRAME a d v x` (R86). -/
def scriptFrame (a d v x : Byte) : List Stimulus := scriptRx (frameOf a d v x).bytes

/-- The fetch of a table word (log 3): the state in which the very next step takes exactly that unit. 8 bits: the
head byte of RXQ, connected, hunt state, for a byte other than SYNC not waiting. 48 bits: a frame whose last byte is
the head of RXQ and whose first five are in FR. 49 bits: a SEND stimulus. -/
def placeWord (nbits w : Nat) (s : State) : State :=
  if nbits = 8 ∧ w < 2 ^ 8 then
    { s with
      script := .asm :: s.script
      connected := true
      fidx := 0
      waitingForAck := s.waitingForAck && BitVec.ofNat 8 w == Config.sync
      rxq := BitVec.ofNat 8 w :: s.rxq.tail }
  else if nbits = 48 ∧ w < 2 ^ 48 then
    { s with
      script := .asm :: s.script
      connected := true
      fidx := 5
      fr := { tableFrame w with cks := s.fr.cks }
      rxq := (tableFrame w).cks :: s.rxq.tail }
  else if (nbits = 49 ∨ nbits = 56) ∧ w < 2 ^ 49 then
    { s with
      script := (if w / 2 ^ 48 = 0 then .sendP (tableFrame w) else .sendC (tableFrame w)) :: s.script }
  else s

end Sys2Proof.Machine
end

