-- ==== Sys2Proof/Machine/Step.lean ====
section
/-! DEFINITION. One step of the block: the next stimulus is taken, its unit decoded, the operation executed. -/

namespace Sys2Proof.Machine

/-- Takes one stimulus on a state: nothing where the assembler waits (R110, log 14), else the selected operation. -/
def takeStimulus (e : Stimulus) (s : State) : Host.Outcome State Fault Refusal :=
  match fetch e s with
  | none => .next s
  | some (p, u) =>
    match decode p s.view u with
    | .op i => exec i s
    | .rejected _ => .refused .undecodable

/-- One atomic step of one agent (R50): the script says which (log 1). -/
def step (s : State) : Host.Outcome State Fault Refusal :=
  takeStimulus (nextStimulus s) (dropStimulus s)

/-- A table word placed where the next step fetches it (log 3). -/
def State.withFetchWord (s : State) (nbits w : Nat) : State := placeWord nbits w s

end Sys2Proof.Machine
end

