-- ==== Sys2Proof/Machine/Report.lean ====
section
/-! DEFINITION. The numeric layouts of what the block puts out: tag codes (R76), error codes and the event record,
format E (R77), connect failure reasons (R78). -/

namespace Sys2Proof.Machine

/-- The 3-bit code of a tag (R76). -/
def Tag.code : Tag → BitVec 3
  | .ok => 0
  | .crcError => 1
  | .suspend => 2
  | .resume => 3
  | .notForUs => 4
  | .ack => 5
  | .poll => 6
  | .command => 7

/-- The tag of a 3-bit code (R76). -/
def Tag.ofCode (c : BitVec 3) : Tag :=
  if c = 0 then .ok
  else if c = 1 then .crcError
  else if c = 2 then .suspend
  else if c = 3 then .resume
  else if c = 4 then .notForUs
  else if c = 5 then .ack
  else if c = 6 then .poll
  else .command

/-- The error code (R77); 0 is unused. -/
def Err.code : Err → BitVec 3
  | .rxqOverflow => 1
  | .ackNotReceived _ => 2
  | .txWriteFailed _ => 3
  | .lineError _ => 4
  | .rxIo => 5
  | .cancelled => 6
  | .txqFull _ => 7

/-- The datum an error records (R77, R200). The kind of a line error is in bits 7..0; the bits above are free
(log 19). -/
def Err.info : Err → Option (BitVec 48)
  | .rxqOverflow => none
  | .ackNotReceived f => some f.pack
  | .txWriteFailed f => some f.pack
  | .lineError k => some (Config.lineInfoHigh k ++ k)
  | .rxIo => none
  | .cancelled => none
  | .txqFull f => some f.pack

/-- The number of a connect failure reason (R78). -/
def reasonCode : Reason → Nat
  | .portUnavailable => 1
  | .portInUse => 2
  | .unsupportedConfig => 3
  | .ioFailure => 4

/-- Format E (R77): `cls` is 0 for a telegram and 1 for an error. `hasInfo` is whether `info` is there: the field is
an option, since `info` must not be read when `hasInfo = 0` (U2). -/
structure EventRecord where
  cls : BitVec 1
  code : BitVec 3
  info : Option (BitVec 48)
  deriving DecidableEq, Repr

/-- The `hasInfo` bit (R77). -/
def EventRecord.hasInfo (r : EventRecord) : Bool := r.info.isSome

/-- The record of an event (R77). -/
def Event.record : Event → EventRecord
  | .telegram tag payload => ⟨0, tag.code, payload.map Frame.pack⟩
  | .error e => ⟨1, e.code, e.info⟩

/-- The error of a code and its datum (R77), where there is one. -/
def errOf (c : BitVec 3) (info : Option (BitVec 48)) : Option Err :=
  match info with
  | none => if c = 1 then some .rxqOverflow else if c = 5 then some .rxIo else if c = 6 then some .cancelled else none
  | some v =>
    if c = 2 then some (.ackNotReceived (Frame.unpack v))
    else if c = 3 then some (.txWriteFailed (Frame.unpack v))
    else if c = 4 then some (.lineError (v.extractLsb' 0 8))
    else if c = 7 then some (.txqFull (Frame.unpack v))
    else none

/-- Reading a record back (R77). -/
def EventRecord.event (r : EventRecord) : Option Event :=
  if r.cls = 0 then some (.telegram (Tag.ofCode r.code) (r.info.map Frame.unpack))
  else (errOf r.code r.info).map .error

end Sys2Proof.Machine
end

