-- ==== Sys2Proof/Safety.lean ====
section
/-! DEFINITION. What counts as a sound state and a run: the invariant of R25, and the words the statements use. -/

namespace Sys2Proof.Machine

/-- The invariant of the state (R25): the parameters are in range; the queues within their capacities; no item has
more than `RETRY_N` retries; a poll, and every item behind the head, has exactly `RETRY_N`; a begun frame starts with
SYNC; and the listener set is in its canonical form (log 12). FIDX in 0..5 and the kinds are in the types. -/
structure State.Inv (s : State) : Prop where
  params_wf : s.params.wf
  rxq_cap : s.rxq.length ≤ s.params.rxqCap
  txq_cap : ∀ c ∈ s.params.txqCap, s.txq.length ≤ c
  retries_le : ∀ it ∈ s.txq, it.retries ≤ s.params.retryN
  poll_fresh : ∀ it ∈ s.txq, it.kind = .poll → it.retries = s.params.retryN
  behind_fresh : ∀ it ∈ s.txq.tail, it.retries = s.params.retryN
  begun_sync : s.fidx ≠ 0 → s.fr.sync = Config.sync
  listeners_rising : s.listeners.Pairwise (· < ·)

/-- The events of EVT, without the delivery (R21). -/
def State.events (s : State) : List Event := s.evt.map Notice.event

/-- The events a listener has received (R184, R207). -/
def State.receivedBy (s : State) (l : Listener) : List Event :=
  (s.evt.filter fun n => n.notified.contains l).map Notice.event

/-- The telegram the classifier emits for a frame (R132 to R136). -/
def verdictTelegram (f : Frame) : Verdict → Event
  | .crcError => .telegram .crcError (some f)
  | .suspend => .telegram .suspend none
  | .resume => .telegram .resume none
  | .ok => .telegram .ok (some f)
  | .notForUs => .telegram .notForUs (some f)

/-- `suspended` after a classification (R133, R134). -/
def verdictSuspended (old : Bool) : Verdict → Bool
  | .crcError => old
  | .suspend => true
  | .resume => false
  | .ok => old
  | .notForUs => old

/-- The candidate frames in a byte stream met in hunt state (R48, R84): a byte other than SYNC is passed over, SYNC
and the next five bytes are a frame whatever their values; a frame cut short yields nothing yet. -/
def framesOf : List Byte → List Frame
  | [] => []
  | b :: rest =>
    if b = Config.sync then
      match rest with
      | c :: d :: e :: g :: h :: more => ⟨b, c, d, e, g, h⟩ :: framesOf more
      | _ => []
    else framesOf rest

/-- The telegrams of a stream's candidate frames (R131). -/
def telegramsOf (p : Params) (own : Byte) (bs : List Byte) : List Event :=
  (framesOf bs).map fun f => verdictTelegram f (classify p own f)

/-- What the receive path reads and writes (R24, R51): two states that agree on it differ in the send path. -/
structure State.sameReceivePath (s t : State) : Prop where
  connected : s.connected = t.connected
  waitingForAck : s.waitingForAck = t.waitingForAck
  ackValid : s.ackValid = t.ackValid
  ackByte : s.ackByte = t.ackByte
  ownAddr : s.ownAddr = t.ownAddr
  fr : s.fr = t.fr
  fidx : s.fidx = t.fidx
  rxq : s.rxq = t.rxq
  params : s.params = t.params

/-- What the scheduler reads and writes (R24, R53): the send queue, the trace of writes, and the shared flags. -/
structure State.sameSendPath (s t : State) : Prop where
  connected : s.connected = t.connected
  waitingForAck : s.waitingForAck = t.waitingForAck
  suspended : s.suspended = t.suspended
  ackValid : s.ackValid = t.ackValid
  ackByte : s.ackByte = t.ackByte
  txq : s.txq = t.txq
  txw : s.txw = t.txw
  params : s.params = t.params

/-- The stimuli that a disconnected engine ignores (R202, R208). -/
def ignoredWhenClosed : Stimulus → Bool
  | .rxb _ => true
  | .rxerr _ => true
  | .rxioerr => true
  | .asm => true
  | .tick _ => true
  | .sendP _ => true
  | .sendC _ => true
  | .connect _ _ => false
  | .close => true
  | .isconn => false
  | .ladd _ => false
  | .lrem _ => false
  | .reset => false

/-- A recorded acknowledgement byte is a stray byte, hence not SYNC (R112, R252). -/
def State.ackNotSync (s : State) : Prop := s.ackValid = true → s.ackByte ≠ Config.sync

/-- `k` steps of the machine. -/
abbrev run (k : Nat) (s : State) : Result := Sys2Proof.core.run k s

end Sys2Proof.Machine
end

