-- ==== Sys2Proof/Certificates/Slice0/Obligations.lean ====
section
/-! DEFINITION. The statements about the model, in the order of OBLIGATIONS.json. Each next state is given whole, as
an update of the state before, so that it states the frame too: every field not named is unchanged. -/

open Sys2Proof Sys2Proof.Machine

/-- R101: a received byte is queued while connected with room, and ignored while disconnected. -/
def Obligations.RxpushQueuesOrIgnores : Prop :=
  (∀ (s : State) (b : Byte), s.connected = true → s.rxq.length < s.params.rxqCap →
    exec (.rxpush b) s = .next { s with rxq := s.rxq ++ [b] }) ∧
  (∀ (s : State) (b : Byte), s.connected = false → exec (.rxpush b) s = .next s)

/-- R102: a byte that finds the queue full clears it, is lost, and raises exactly one error; FR, FIDX and every flag
stay; the next byte is an ordinary RXPUSH. -/
def Obligations.OverflowClearsQueueOnce : Prop :=
  ∀ (s : State) (b : Byte), s.connected = true → s.rxq.length = s.params.rxqCap →
    exec (.rxpushOvf b) s =
      .next { s with rxq := [], evt := s.evt ++ [⟨.error .rxqOverflow, s.listeners⟩] }

/-- R102, R83: `RXQ_CAP + 1` bytes pushed into an empty, undrained queue give one overflow error and an empty queue,
and no byte of them is left for the assembler. -/
def Obligations.CapacityPlusOneBytesOverflowOnce : Prop :=
  ∀ (s : State) (bs : List Byte) (es : List Stimulus), s.connected = true → s.rxq = [] →
    bs.length = s.params.rxqCap + 1 → s.script = scriptRx bs ++ es →
    run bs.length s =
      .next { s with script := es, evt := s.evt ++ [⟨.error .rxqOverflow, s.listeners⟩] }

/-- R103: a line event is reported while connected and ignored while disconnected; nothing else changes. -/
def Obligations.LineErrorIsReportedOnly : Prop :=
  ∀ (s : State) (k : Byte),
    (s.connected = true →
      exec (.rxerr k) s = .next { s with evt := s.evt ++ [⟨.error (.lineError k), s.listeners⟩] }) ∧
    (s.connected = false → exec (.rxerr k) s = .next s)

/-- R104: a read failure is reported while connected and ignored while disconnected; nothing is cleared. -/
def Obligations.ReadFailureIsReportedOnly : Prop :=
  ∀ s : State,
    (s.connected = true → exec .rxioerr s = .next { s with evt := s.evt ++ [⟨.error .rxIo, s.listeners⟩] }) ∧
    (s.connected = false → exec .rxioerr s = .next s)

/-- R111, R112, R113: the three steps of the hunt state. -/
def Obligations.HuntStateSteps : Prop :=
  ∀ (s : State) (b : Byte) (rest : List Byte), s.connected = true → s.fidx = 0 → s.rxq = b :: rest →
    (b = Config.sync →
      exec .asmSync s = .next { s with rxq := rest, fr := { s.fr with sync := b }, fidx := 1 }) ∧
    (b ≠ Config.sync → s.waitingForAck = true →
      exec (.asmAck b) s =
        .next { s with rxq := rest, ackByte := b, ackValid := true, waitingForAck := false }) ∧
    (b ≠ Config.sync → s.waitingForAck = false → exec (.asmDrop b) s = .next { s with rxq := rest })

/-- R114: bytes 1 to 4 of a candidate frame are stored whatever their value, and the position advances by one. -/
def Obligations.FillStateStoresAnyByte : Prop :=
  ∀ (s : State) (b : Byte) (rest : List Byte), s.connected = true → s.rxq = b :: rest →
    (s.fidx = 1 → exec (.asmFill b) s = .next { s with rxq := rest, fr := { s.fr with src := b }, fidx := 2 }) ∧
    (s.fidx = 2 → exec (.asmFill b) s = .next { s with rxq := rest, fr := { s.fr with dst := b }, fidx := 3 }) ∧
    (s.fidx = 3 → exec (.asmFill b) s = .next { s with rxq := rest, fr := { s.fr with var := b }, fidx := 4 }) ∧
    (s.fidx = 4 → exec (.asmFill b) s = .next { s with rxq := rest, fr := { s.fr with val := b }, fidx := 5 })

/-- R115: the sixth byte completes the frame; the same step classifies it and emits exactly one telegram. -/
def Obligations.SixthByteCompletesAndClassifies : Prop :=
  ∀ (s : State) (b : Byte) (rest : List Byte), s.connected = true → s.fidx = 5 → s.rxq = b :: rest →
    let f : Frame := { s.fr with cks := b }
    let v := classify s.params s.ownAddr f
    exec (.asmLast b) s =
      .next { s with
        rxq := rest
        fr := f
        fidx := 0
        suspended := verdictSuspended s.suspended v
        evt := s.evt ++ [⟨verdictTelegram f v, s.listeners⟩] }

/-- R131: the verdicts, each with exactly the condition the order of the checks gives it. -/
def Obligations.ClassifierPrecedence : Prop :=
  ∀ (p : Params) (own : Byte) (f : Frame),
    (classify p own f = .crcError ↔ f.sum % 256 ≠ f.cks.toNat) ∧
    (classify p own f = .suspend ↔ f.sum % 256 = f.cks.toNat ∧ f.val = p.suspendByte) ∧
    (classify p own f = .resume ↔
      f.sum % 256 = f.cks.toNat ∧ f.val ≠ p.suspendByte ∧ f.val = p.resumeByte) ∧
    (classify p own f = .ok ↔
      f.sum % 256 = f.cks.toNat ∧ f.val ≠ p.suspendByte ∧ f.val ≠ p.resumeByte ∧
        (f.dst = own ∨ f.dst = p.addrBroadcast ∨ f.dst = p.addrPanel1)) ∧
    (classify p own f = .notForUs ↔
      f.sum % 256 = f.cks.toNat ∧ f.val ≠ p.suspendByte ∧ f.val ≠ p.resumeByte ∧
        f.dst ≠ own ∧ f.dst ≠ p.addrBroadcast ∧ f.dst ≠ p.addrPanel1)

/-- R132: a frame whose checksum does not match is reported with its bytes and changes no flag. -/
def Obligations.CorruptFrameIsReportedOnly : Prop :=
  ∀ (s : State) (f : Frame), s.fr = f → f.sum % 256 ≠ f.cks.toNat →
    exec (.clsCrcerr f) s =
      .next { s with evt := s.evt ++ [⟨.telegram .crcError (some f), s.listeners⟩] }

/-- R133, R134: a valid frame whose value byte is a marker sets or clears `suspended`, whatever its other bytes and
whatever the flag was, and emits a telegram without payload. -/
def Obligations.ControlFramesSetAndClearSuspended : Prop :=
  ∀ (s : State) (f : Frame), s.fr = f → f.sum % 256 = f.cks.toNat →
    (f.val = s.params.suspendByte →
      exec (.clsSuspend f) s =
        .next { s with suspended := true, evt := s.evt ++ [⟨.telegram .suspend none, s.listeners⟩] }) ∧
    (f.val ≠ s.params.suspendByte → f.val = s.params.resumeByte →
      exec (.clsResume f) s =
        .next { s with suspended := false, evt := s.evt ++ [⟨.telegram .resume none, s.listeners⟩] })

/-- R135, R136: a valid data frame is reported OK for an accepted address and NOT_FOR_US for any other. -/
def Obligations.DataFramesAreTaggedByAddress : Prop :=
  ∀ (s : State) (f : Frame), s.fr = f → f.sum % 256 = f.cks.toNat → f.val ≠ s.params.suspendByte →
    f.val ≠ s.params.resumeByte →
    (f.dst = s.ownAddr ∨ f.dst = s.params.addrBroadcast ∨ f.dst = s.params.addrPanel1 →
      exec (.clsOk f) s = .next { s with evt := s.evt ++ [⟨.telegram .ok (some f), s.listeners⟩] }) ∧
    (f.dst ≠ s.ownAddr → f.dst ≠ s.params.addrBroadcast → f.dst ≠ s.params.addrPanel1 →
      exec (.clsNfu f) s = .next { s with evt := s.evt ++ [⟨.telegram .notForUs (some f), s.listeners⟩] })

/-- R130 and its laws: the sum modulo 256, which is an 8-bit accumulator that wraps around; (a) SYNC is a summand;
(b) exactly one sixth byte makes a frame valid; (c) changing exactly one byte of a valid frame makes it invalid;
(d) two changes can cancel; (e) the sum is at most 1275. -/
def Obligations.ChecksumLaws : Prop :=
  (∀ f : Frame, (checksum f).toNat =
    (f.sync.toNat + f.src.toNat + f.dst.toNat + f.var.toNat + f.val.toNat) % 256) ∧
  (∀ f : Frame, checksum f = f.sync + f.src + f.dst + f.var + f.val) ∧
  (∀ f : Frame, f.valid = true ↔ checksum f = f.cks) ∧
  (∀ f : Frame, f.sync = Config.sync → checksum f = Config.sync + f.src + f.dst + f.var + f.val) ∧
  (∀ f : Frame, ∃ c : Byte, ∀ d : Byte, ({ f with cks := d } : Frame).valid = true ↔ d = c) ∧
  (∀ (f : Frame) (i : Fin Config.frameLen) (b : Byte), f.valid = true → b ≠ f.get i → (f.set i b).valid = false) ∧
  (∀ f : Frame, f.valid = true → ({ f with src := f.src + 1, dst := f.dst - 1 } : Frame).valid = true) ∧
  (∀ f : Frame, f.sum ≤ 1275)

/-- R116, R182: cancelling abandons a begun frame and reports it once; CLOSE of a connected engine clears
`connected` and cancels, and keeps everything else; CLOSE of a closed engine does nothing. The rules do not say what
FR holds after a cancellation: the statement gives it no value (`QueueAndFrameWriters` says what the model does). -/
def Obligations.CloseCancelsOnce : Prop :=
  (∀ s : State, ∃ f : Frame, exec .asmCancel s =
    .next { s with fr := f, fidx := 0, evt := s.evt ++ [⟨.error .cancelled, s.listeners⟩] }) ∧
  (∀ s : State, s.connected = true → ∃ f : Frame, exec .close s =
    .next { s with connected := false, fr := f, fidx := 0, evt := s.evt ++ [⟨.error .cancelled, s.listeners⟩] }) ∧
  (∀ s : State, s.connected = false → exec .close s = .next s)

/-- R151, R152: SEND is dropped while disconnected, refused with an error when a bounded queue is full, and otherwise
queued at the tail with the budget `RETRY_N`; `suspended` makes no difference. -/
def Obligations.SendQueuesAtTheTail : Prop :=
  ∀ (s : State) (f : Frame),
    (s.connected = false → exec (.sendP f) s = .next s ∧ exec (.sendC f) s = .next s) ∧
    (s.connected = true → s.params.txqCap = some s.txq.length →
      exec (.sendP f) s = .next { s with evt := s.evt ++ [⟨.error (.txqFull f), s.listeners⟩] } ∧
      exec (.sendC f) s = .next { s with evt := s.evt ++ [⟨.error (.txqFull f), s.listeners⟩] }) ∧
    (s.connected = true → (∀ c ∈ s.params.txqCap, s.txq.length < c) →
      exec (.sendP f) s = .next { s with txq := s.txq ++ [⟨.poll, f, s.params.retryN⟩] } ∧
      exec (.sendC f) s = .next { s with txq := s.txq ++ [⟨.command, f, s.params.retryN⟩] })

/-- R154: a tick with nothing to do changes nothing. -/
def Obligations.IdleTickChangesNothing : Prop :=
  ∀ s : State, (s.connected = false ∨ s.suspended = true ∨ s.txq = []) → exec .tickNop s = .next s

/-- R155: a poll is written once, without touching a flag, and is done. -/
def Obligations.PollIsWrittenOnceAndDone : Prop :=
  ∀ (s : State) (f : Frame) (r : Nat) (q : List Item), s.connected = true → s.suspended = false →
    s.txq = ⟨.poll, f, r⟩ :: q →
    exec (.tickPoll f) s = .next { s with txq := q, txw := s.txw ++ [⟨f, .ok⟩] }

/-- R156: an echoed command is done: ACK telegram, `waitingForAck` cleared, nothing written, `ackByte` kept. -/
def Obligations.EchoedCommandIsAcknowledged : Prop :=
  ∀ (s : State) (f : Frame) (r : Nat) (q : List Item), s.connected = true → s.suspended = false →
    s.txq = ⟨.command, f, r⟩ :: q → 0 < r → s.ackValid = true → f.cks = s.ackByte →
    exec (.tickAcked f) s =
      .next { s with
        txq := q
        waitingForAck := false
        evt := s.evt ++ [⟨.telegram .ack (some f), s.listeners⟩] }

/-- R157: an unechoed command is written and stays at the head with one retry less; `waitingForAck` is set. -/
def Obligations.UnechoedCommandIsWrittenAgain : Prop :=
  ∀ (s : State) (f : Frame) (r : Nat) (q : List Item), s.connected = true → s.suspended = false →
    s.txq = ⟨.command, f, r + 1⟩ :: q → (s.ackValid = false ∨ f.cks ≠ s.ackByte) →
    exec (.tickRetry f) s =
      .next { s with
        txq := ⟨.command, f, r⟩ :: q
        waitingForAck := true
        txw := s.txw ++ [⟨f, .ok⟩] }

/-- R158: a command without retries left is dropped with one error, whatever the ack byte; nothing is written. -/
def Obligations.ExhaustedCommandIsDropped : Prop :=
  ∀ (s : State) (f : Frame) (q : List Item), s.connected = true → s.suspended = false →
    s.txq = ⟨.command, f, 0⟩ :: q →
    exec (.tickExhaust f) s =
      .next { s with txq := q, evt := s.evt ++ [⟨.error (.ackNotReceived f), s.listeners⟩] }

/-- R159: a failed write clears the queue and raises one error; a command leaves `waitingForAck` set, a poll leaves
it alone; the engine stays connected. -/
def Obligations.FailedWriteClearsTheQueue : Prop :=
  ∀ (s : State) (f : Frame) (r : Nat) (q : List Item), s.connected = true → s.suspended = false →
    (s.txq = ⟨.poll, f, r⟩ :: q →
      exec (.tickTxfail .poll f) s =
        .next { s with
          txq := []
          txw := s.txw ++ [⟨f, .fail⟩]
          evt := s.evt ++ [⟨.error (.txWriteFailed f), s.listeners⟩] }) ∧
    (s.txq = ⟨.command, f, r⟩ :: q → 0 < r → (s.ackValid = false ∨ f.cks ≠ s.ackByte) →
      exec (.tickTxfail .command f) s =
        .next { s with
          txq := []
          waitingForAck := true
          txw := s.txw ++ [⟨f, .fail⟩]
          evt := s.evt ++ [⟨.error (.txWriteFailed f), s.listeners⟩] })

/-- R181: CONNECT while connected is a no-op returning `ok`; a failed open changes nothing and returns the reason; a
successful one starts the engine. `ackByte` and FR are unspecified afterwards (10_state.md section 11): the statement
gives them no value. -/
def Obligations.ConnectStartsTheEngine : Prop :=
  ∀ (s : State) (own : Byte),
    (∀ o : OpenResult, s.connected = true →
      exec (.connect own o) s = .next { s with ret := s.ret ++ [.connect .ok] }) ∧
    (∀ reason : Reason, s.connected = false →
      exec (.connect own (.fail reason)) s = .next { s with ret := s.ret ++ [.connect (.fail reason)] }) ∧
    (s.connected = false → ∃ (a : Byte) (f : Frame) (n : Nat),
      exec (.connect own .ok) s =
        .next { s with
          connected := true
          waitingForAck := false
          suspended := false
          ackValid := false
          ackByte := a
          ownAddr := own
          fr := f
          fidx := 0
          rxq := []
          txq := []
          ret := s.ret ++ [.connect .ok]
          freeCount := n })

/-- R183: ISCONN returns the flag and changes nothing else. -/
def Obligations.IsconnReturnsTheFlag : Prop :=
  ∀ s : State, exec .isconn s = .next { s with ret := s.ret ++ [.isconn s.connected] }

/-- R184, R185: LADD and LREM add and remove exactly one identity of the set and change nothing else. -/
def Obligations.ListenersAreAddedAndRemoved : Prop :=
  ∀ (s : State) (l : Listener),
    (∃ ls, exec (.ladd l) s = .next { s with listeners := ls } ∧ ∀ x, x ∈ ls ↔ x = l ∨ x ∈ s.listeners) ∧
    (∃ ls, exec (.lrem l) s = .next { s with listeners := ls } ∧ ∀ x, x ∈ ls ↔ x ∈ s.listeners ∧ x ≠ l)

/-- R184, R185: registration is idempotent as data: a set in canonical form that already holds `l` is unchanged by
LADD, one that does not is unchanged by LREM; and the canonical form is kept. -/
def Obligations.RegistrationIsIdempotent : Prop :=
  ∀ (s : State) (l : Listener), s.listeners.Pairwise (· < ·) →
    (l ∈ s.listeners → exec (.ladd l) s = .next s) ∧
    (l ∉ s.listeners → exec (.lrem l) s = .next s) ∧
    (∀ t, exec (.ladd l) s = .next t → t.listeners.Pairwise (· < ·)) ∧
    (∀ t, exec (.lrem l) s = .next t → t.listeners.Pairwise (· < ·))

/-- R242: RESET from any state, whatever the mode. `ackByte`, `ownAddr` and FR are unspecified afterwards: the
statement says nothing of them. Nothing is appended to the histories, which R241 allows a model to keep or to start
anew. -/
def Obligations.ResetOperationClearsTheEngine : Prop :=
  ∀ s : State, ∃ t : State, exec .reset s = .next t ∧
    t.connected = false ∧ t.waitingForAck = false ∧ t.suspended = false ∧ t.ackValid = false ∧ t.fidx = 0 ∧
    t.rxq = [] ∧ t.txq = [] ∧ t.listeners = [] ∧ t.evt <+: s.evt ∧ t.txw <+: s.txw

/-- The model's choices at RESET (log 10, log 1, log 5): the histories, the returned values, the script and the
parameters are kept. -/
def Obligations.ResetKeepsHistoriesAndScript : Prop :=
  ∀ s t : State, exec .reset s = .next t →
    t.evt = s.evt ∧ t.txw = s.txw ∧ t.ret = s.ret ∧ t.script = s.script ∧ t.params = s.params

/-- R243: the state in which the engine starts running is the same after RESET then CONNECT as after CLOSE then
CONNECT, apart from the listeners, the histories and the unspecified values: every other element at its reset value,
then `ownAddr` loaded and `connected` set. The listeners survive CLOSE only. -/
def Obligations.ConnectStartsFromTheSameState : Prop :=
  ∀ (s : State) (own : Byte), ∃ a b t u : State,
    exec .reset s = .next a ∧ exec (.connect own .ok) a = .next t ∧
    exec .close s = .next b ∧ exec (.connect own .ok) b = .next u ∧
    t.connected = u.connected ∧ t.waitingForAck = u.waitingForAck ∧ t.suspended = u.suspended ∧
    t.ackValid = u.ackValid ∧ t.ownAddr = u.ownAddr ∧ t.fidx = u.fidx ∧ t.rxq = u.rxq ∧ t.txq = u.txq ∧
    u.waitingForAck = false ∧ u.suspended = false ∧ u.ackValid = false ∧ u.fidx = 0 ∧ u.rxq = [] ∧ u.txq = [] ∧
    u.ownAddr = own ∧ u.connected = true ∧ t.listeners = [] ∧ u.listeners = s.listeners

/-- R241: the specified elements of the state after reset, and the initial mode. -/
def Obligations.StateAfterReset : Prop :=
  State.reset.connected = false ∧ State.reset.waitingForAck = false ∧ State.reset.suspended = false ∧
  State.reset.ackValid = false ∧ State.reset.fidx = 0 ∧ State.reset.rxq = [] ∧ State.reset.txq = [] ∧
  State.reset.listeners = [] ∧ State.reset.evt = [] ∧ State.reset.txw = [] ∧ State.reset.mode = .disconnected

/-- R80: which operation an assembler step runs. The step takes the stimulus, then runs the row's operation. That no
step is enabled while disconnected or with RXQ empty is R110; that an ASM line met there takes only the stimulus is the
model's reading (log 14, DEDUCED). -/
def Obligations.AssemblerStepSelection : Prop :=
  ∀ (s : State) (es : List Stimulus), s.script = .asm :: es →
    (s.connected = false ∨ s.rxq = [] → step s = .next { s with script := es }) ∧
    (∀ b rest, s.connected = true → s.rxq = b :: rest →
      (s.fidx = 0 → b = Config.sync → step s = exec .asmSync { s with script := es }) ∧
      (s.fidx = 0 → b ≠ Config.sync → s.waitingForAck = true → step s = exec (.asmAck b) { s with script := es }) ∧
      (s.fidx = 0 → b ≠ Config.sync → s.waitingForAck = false → step s = exec (.asmDrop b) { s with script := es }) ∧
      (1 ≤ s.fidx.val → s.fidx.val ≤ 4 → step s = exec (.asmFill b) { s with script := es }) ∧
      (s.fidx = 5 → step s = exec (.asmLast b) { s with script := es }))

/-- R82: which operation a tick runs, in the order of the tests. -/
def Obligations.TickSelection : Prop :=
  ∀ (s : State) (es : List Stimulus) (w : Draw), s.script = .tick w :: es →
    (s.connected = false ∨ s.suspended = true ∨ s.txq = [] →
      step s = exec .tickNop { s with script := es }) ∧
    (∀ f r q, s.connected = true → s.suspended = false →
      (s.txq = ⟨.poll, f, r⟩ :: q → w = .ok → step s = exec (.tickPoll f) { s with script := es }) ∧
      (s.txq = ⟨.poll, f, r⟩ :: q → w = .fail → step s = exec (.tickTxfail .poll f) { s with script := es }) ∧
      (s.txq = ⟨.command, f, r⟩ :: q → 0 < r → s.ackValid = true → f.cks = s.ackByte →
        step s = exec (.tickAcked f) { s with script := es }) ∧
      (s.txq = ⟨.command, f, r⟩ :: q → 0 < r → (s.ackValid = false ∨ f.cks ≠ s.ackByte) → w = .ok →
        step s = exec (.tickRetry f) { s with script := es }) ∧
      (s.txq = ⟨.command, f, r⟩ :: q → 0 < r → (s.ackValid = false ∨ f.cks ≠ s.ackByte) → w = .fail →
        step s = exec (.tickTxfail .command f) { s with script := es }) ∧
      (s.txq = ⟨.command, f, r⟩ :: q → r = 0 → step s = exec (.tickExhaust f) { s with script := es }))

/-- R83: which operation an interface event runs. -/
def Obligations.InterfaceEventSelection : Prop :=
  ∀ (s : State) (es : List Stimulus),
    (∀ b, s.script = .rxb b :: es →
      (s.connected = false ∨ s.rxq.length < s.params.rxqCap → step s = exec (.rxpush b) { s with script := es }) ∧
      (s.connected = true → s.rxq.length = s.params.rxqCap →
        step s = exec (.rxpushOvf b) { s with script := es })) ∧
    (∀ k, s.script = .rxerr k :: es → step s = exec (.rxerr k) { s with script := es }) ∧
    (s.script = .rxioerr :: es → step s = exec .rxioerr { s with script := es }) ∧
    (∀ f, s.script = .sendP f :: es → step s = exec (.sendP f) { s with script := es }) ∧
    (∀ f, s.script = .sendC f :: es → step s = exec (.sendC f) { s with script := es }) ∧
    (∀ own o, s.script = .connect own o :: es → step s = exec (.connect own o) { s with script := es }) ∧
    (s.script = .close :: es → step s = exec .close { s with script := es }) ∧
    (s.script = .isconn :: es → step s = exec .isconn { s with script := es }) ∧
    (∀ l, s.script = .ladd l :: es → step s = exec (.ladd l) { s with script := es }) ∧
    (∀ l, s.script = .lrem l :: es → step s = exec (.lrem l) { s with script := es }) ∧
    (s.script = .reset :: es → step s = exec .reset { s with script := es })

/-- A step is `exec` of the operation its unit decodes to, at the state with the stimulus taken; where the assembler
waits (R110), only the stimulus goes (log 14, DEDUCED); with no stimulus left the assembler's own step is taken (log 2,
DESIGN CHOICE). -/
def Obligations.StepRunsTheDecodedOperation : Prop :=
  (∀ (s : State) (e : Stimulus) (es : List Stimulus), s.script = e :: es →
    (∀ p u i, fetch e { s with script := es } = some (p, u) → decode p s.view u = .op i →
      step s = exec i { s with script := es }) ∧
    (fetch e { s with script := es } = none → step s = .next { s with script := es })) ∧
  (∀ s : State, s.script = [] → ∀ t : State, t = { s with script := [.asm] } → step s = step t)

/-- Words written out from the spec's formats decode to their operations (format B, F, Q and C). -/
def Obligations.SpecWordsDecode : Prop :=
  (∀ v : View, v.connected = true → v.fidx = 0 → decode .asm v [0x01#8] = .op .asmSync) ∧
  (∀ v : View, decode .cls v [0x01#8, 0x00#8, 0x00#8, 0x10#8, 0x20#8, 0x32#8] =
    .op (.clsCrcerr ⟨0x01#8, 0x00#8, 0x00#8, 0x10#8, 0x20#8, 0x32#8⟩)) ∧
  (∀ v : View, decode .send v [0x01#8, 0x01#8, 0x22#8, 0x11#8, 0x29#8, 0x03#8, 0x60#8] =
    .op (.sendC ⟨0x01#8, 0x22#8, 0x11#8, 0x29#8, 0x03#8, 0x60#8⟩)) ∧
  (∀ (v : View) (o : OpenResult), decode (.connect o) v [0x22#8] = .op (.connect 0x22#8 o))

/-- R80 to R83, both ways: on an interface, a unit decodes to an operation exactly when the operation belongs to that
interface, its row's conditions hold, and its encoding is that unit (TICK.NOP looks at no unit). So at most one row
applies, and decoding an encoded operation gives it back with every operand. The byte layout of an item is log 22
(DESIGN CHOICE), that ASM.CANCEL has no condition log 16 (DEDUCED). -/
def Obligations.DecodeEncodeAgree : Prop :=
  ∀ (p : Port) (v : View) (u : List Byte) (i : Instr),
    decode p v u = .op i ↔
      i.onPort p = true ∧ i.condition v = true ∧ i.wf = true ∧ (encode i = u ∨ i = .tickNop)

/-- R47, R72, R77: no bit of a packed unit is lost: the 48-bit packing, the 49-bit item word and the event record give
back what was packed. That a bare 49-bit word is read as a SEND call is log 4 (DESIGN CHOICE). -/
def Obligations.PackedFormsReadBack : Prop :=
  (∀ f : Frame, Frame.unpack f.pack = f) ∧
  (∀ v : BitVec 48, (Frame.unpack v).pack = v) ∧
  (∀ f : Frame, decodeTableWord 49 (packItem .poll f).toNat = some (.sendP f)) ∧
  (∀ f : Frame, decodeTableWord 49 (packItem .command f).toNat = some (.sendC f)) ∧
  (∀ e : Event, e.record.event = some e)

/-- Every operation has its meaning exactly where it is selected, and is refused by name everywhere else (log 13). -/
def Obligations.ExecRunsExactlyWhenSelected : Prop :=
  ∀ (i : Instr) (s : State),
    (s.enables i = true → ∃ t, exec i s = .next t) ∧
    (s.enables i = false → exec i s = .refused .notEnabled)

/-- R85, R206: from every state, reachable or not, a step answers a next state: nothing traps or stops the block. -/
def Obligations.NothingStopsTheBlock : Prop :=
  ∀ s : State, ∃ t, step s = .next t

/-- R25 holds of the state after reset, with the defaults for the capacities (log 6). -/
def Obligations.StateAfterResetIsSound : Prop :=
  State.reset.Inv

/-- R25 is kept by every step from every state that meets it, whatever the parameters and the script. The canonical
listener list in the invariant is log 12 (DESIGN CHOICE). -/
def Obligations.SoundStatesStaySound : Prop :=
  ∀ s t : State, s.Inv → step s = .next t → t.Inv

/-- R12 to R16, R20, R24: which operations may write each flag, register and set. CLS writes `suspended` inside
ASM.LAST too. That CONNECT may change `ackByte`, and RESET `ackByte` and `ownAddr`, is their free value (log 8). -/
def Obligations.FlagAndRegisterWriters : Prop :=
  ∀ (i : Instr) (s t : State), exec i s = .next t →
    (t.connected ≠ s.connected → (∃ own, i = .connect own .ok) ∨ i = .close ∨ i = .reset) ∧
    (t.waitingForAck ≠ s.waitingForAck →
      (∃ b, i = .asmAck b) ∨ (∃ f, i = .tickAcked f) ∨ (∃ f, i = .tickRetry f) ∨ (∃ f, i = .tickTxfail .command f) ∨
        (∃ own, i = .connect own .ok) ∨ i = .reset) ∧
    (t.suspended ≠ s.suspended →
      (∃ f, i = .clsSuspend f) ∨ (∃ f, i = .clsResume f) ∨ (∃ b, i = .asmLast b) ∨
        (∃ own, i = .connect own .ok) ∨ i = .reset) ∧
    (t.ackValid ≠ s.ackValid ∨ t.ackByte ≠ s.ackByte →
      (∃ b, i = .asmAck b) ∨ (∃ own, i = .connect own .ok) ∨ i = .reset) ∧
    (t.ownAddr ≠ s.ownAddr → (∃ own, i = .connect own .ok) ∨ i = .reset) ∧
    (t.listeners ≠ s.listeners → (∃ l, i = .ladd l) ∨ (∃ l, i = .lrem l) ∨ i = .reset) ∧
    t.params = s.params

/-- R17 to R19, R24: which operations may write the frame register, the position and the two queues. That CLOSE and
ASM.CANCEL keep FR is the model's reading (log 9, DEDUCED). -/
def Obligations.QueueAndFrameWriters : Prop :=
  ∀ (i : Instr) (s t : State), exec i s = .next t →
    (t.fr ≠ s.fr →
      i = .asmSync ∨ (∃ b, i = .asmFill b) ∨ (∃ b, i = .asmLast b) ∨ (∃ own, i = .connect own .ok) ∨ i = .reset) ∧
    (t.fidx ≠ s.fidx →
      i = .asmSync ∨ (∃ b, i = .asmFill b) ∨ (∃ b, i = .asmLast b) ∨ i = .asmCancel ∨ i = .close ∨
        (∃ own, i = .connect own .ok) ∨ i = .reset) ∧
    (t.rxq ≠ s.rxq →
      (∃ b, i = .rxpush b ∧ t.rxq = s.rxq ++ [b]) ∨ ((∃ b, i = .rxpushOvf b) ∧ t.rxq = []) ∨
        ((i = .asmSync ∨ (∃ b, i = .asmAck b ∨ i = .asmDrop b ∨ i = .asmFill b ∨ i = .asmLast b)) ∧
          t.rxq = s.rxq.tail) ∨
        (((∃ own, i = .connect own .ok) ∨ i = .reset) ∧ t.rxq = [])) ∧
    (t.txq ≠ s.txq →
      (∃ f, i = .sendP f ∧ t.txq = s.txq ++ [⟨.poll, f, s.params.retryN⟩]) ∨
        (∃ f, i = .sendC f ∧ t.txq = s.txq ++ [⟨.command, f, s.params.retryN⟩]) ∨
        ((∃ f, i = .tickPoll f ∨ i = .tickAcked f ∨ i = .tickExhaust f) ∧ t.txq = s.txq.tail) ∨
        (∃ f r q, i = .tickRetry f ∧ s.txq = ⟨.command, f, r + 1⟩ :: q ∧ t.txq = ⟨.command, f, r⟩ :: q) ∨
        (((∃ k f, i = .tickTxfail k f) ∨ (∃ own, i = .connect own .ok) ∨ i = .reset) ∧ t.txq = []))

/-- R200: every error event an operation raises, with the operation, the condition and the datum; no other condition
raises one. Two clauses follow the model's choices: a full queue is one whose length is at least its capacity (log 24,
DESIGN CHOICE; R200 has equality, which is the same in every state that meets R25), and ASM.CANCEL has no condition of
its own (log 16, DEDUCED; R200 has it inside CLOSE with `connected = 1`). -/
def Obligations.EachErrorHasItsCause : Prop :=
  ∀ (i : Instr) (s t : State) (e : Err), exec i s = .next t →
    t.evt = s.evt ++ [⟨.error e, s.listeners⟩] →
    match e with
    | .rxqOverflow => (∃ b, i = .rxpushOvf b) ∧ s.connected = true ∧ s.params.rxqCap ≤ s.rxq.length
    | .ackNotReceived f =>
      i = .tickExhaust f ∧ s.connected = true ∧ s.suspended = false ∧ ∃ q, s.txq = ⟨.command, f, 0⟩ :: q
    | .txWriteFailed f =>
      (∃ k r q, i = .tickTxfail k f ∧ s.txq = ⟨k, f, r⟩ :: q) ∧ t.txw = s.txw ++ [⟨f, .fail⟩]
    | .lineError k => i = .rxerr k ∧ s.connected = true
    | .rxIo => i = .rxioerr ∧ s.connected = true
    | .cancelled => i = .asmCancel ∨ (i = .close ∧ s.connected = true)
    | .txqFull f =>
      (i = .sendP f ∨ i = .sendC f) ∧ s.connected = true ∧ ∃ c, s.params.txqCap = some c ∧ c ≤ s.txq.length

/-- R10, R76: which operation emits each tag and with which payload; POLL and COMMAND are never emitted. A frame
that ASM.LAST completes is classified in its step, so ASM.LAST emits the five received tags too. -/
def Obligations.EachTelegramHasItsCause : Prop :=
  ∀ (i : Instr) (s t : State) (tag : Tag) (payload : Option Frame), exec i s = .next t →
    t.evt = s.evt ++ [⟨.telegram tag payload, s.listeners⟩] →
    match tag with
    | .ok => (∃ b, i = .asmLast b) ∧ payload = some t.fr ∨ ∃ f, i = .clsOk f ∧ payload = some f
    | .crcError => (∃ b, i = .asmLast b) ∧ payload = some t.fr ∨ ∃ f, i = .clsCrcerr f ∧ payload = some f
    | .notForUs => (∃ b, i = .asmLast b) ∧ payload = some t.fr ∨ ∃ f, i = .clsNfu f ∧ payload = some f
    | .suspend => ((∃ b, i = .asmLast b) ∨ ∃ f, i = .clsSuspend f) ∧ payload = none
    | .resume => ((∃ b, i = .asmLast b) ∨ ∃ f, i = .clsResume f) ∧ payload = none
    | .ack => ∃ f, i = .tickAcked f ∧ payload = some f
    | .poll => False
    | .command => False

/-- R21, R160 (a), R205: a step appends at most one event and at most one write, and never takes one back; an event
goes to exactly the listeners registered when the step began (R207). That a RESET step takes none back is the model's
choice (log 10, DESIGN CHOICE): R241 allows new histories there. The return trace is log 11. -/
def Obligations.TracesGrowByAtMostOne : Prop :=
  ∀ s t : State, step s = .next t →
    (t.evt = s.evt ∨ ∃ e, t.evt = s.evt ++ [⟨e, s.listeners⟩]) ∧
    (t.txw = s.txw ∨ ∃ r, t.txw = s.txw ++ [r]) ∧
    (t.ret = s.ret ∨ ∃ r, t.ret = s.ret ++ [r])

/-- R184, R207: what a listener receives in a step is what the step emits if it was registered, and nothing if not.
Reception is the model's delivery record (log 12, DESIGN CHOICE); that a RESET step keeps the events and receptions of
earlier steps is the model's choice too (log 10, DESIGN CHOICE): R241 leaves it open. -/
def Obligations.ListenersReceiveLaterEventsOnly : Prop :=
  ∀ (s t : State) (l : Listener), step s = .next t →
    (l ∈ s.listeners → ∃ es, t.events = s.events ++ es ∧ t.receivedBy l = s.receivedBy l ++ es) ∧
    (l ∉ s.listeners → t.receivedBy l = s.receivedBy l)

/-- R154, R160 (b): while suspended or disconnected nothing is written, whatever the step. That TXW is also kept by a
RESET step is the model's choice (log 10, DESIGN CHOICE): R241 allows a new history there, with nothing appended. -/
def Obligations.NoWriteWhileSuspendedOrClosed : Prop :=
  ∀ s t : State, step s = .next t → s.suspended = true ∨ s.connected = false → t.txw = s.txw

/-- R208: the operations that enter and leave the three modes. -/
def Obligations.ModeChanges : Prop :=
  ∀ (i : Instr) (s t : State), exec i s = .next t → t.mode ≠ s.mode →
    (t.mode = .disconnected → i = .close ∨ i = .reset) ∧
    (s.mode = .disconnected → t.mode = .running ∧ ∃ own, i = .connect own .ok) ∧
    (s.mode = .running → t.mode = .suspended → (∃ f, i = .clsSuspend f) ∨ ∃ b, i = .asmLast b) ∧
    (s.mode = .suspended → t.mode = .running → (∃ f, i = .clsResume f) ∨ ∃ b, i = .asmLast b)

/-- R202, R208: a disconnected engine takes any sequence of bytes, line events, read failures, assembler steps,
ticks, SENDs and CLOSEs without any effect. That an ASM line met there takes only the stimulus is log 14 (DEDUCED). -/
def Obligations.ClosedEngineIsInert : Prop :=
  ∀ (es more : List Stimulus) (s : State), s.connected = false → (∀ e ∈ es, ignoredWhenClosed e = true) →
    s.script = es ++ more → run es.length s = .next { s with script := more }

/-- R261, R154: while suspended any number of ticks changes nothing: no item leaves, no retry is consumed. -/
def Obligations.NothingAgesWhileSuspended : Prop :=
  ∀ (ws : List Draw) (more : List Stimulus) (s : State), s.suspended = true → s.script = ws.map .tick ++ more →
    run ws.length s = .next { s with script := more }

/-- R158, R160 (e): a head command with budget `n` that no recorded byte matches is written exactly `n` times and then
reported once as not acknowledged and removed, in `n + 1` ticks; the items behind it wait. -/
def Obligations.RetryBudgetIsExact : Prop :=
  ∀ (n : Nat) (s : State) (f : Frame) (q : List Item) (more : List Stimulus), s.connected = true →
    s.suspended = false → s.txq = ⟨.command, f, n⟩ :: q → (s.ackValid = false ∨ f.cks ≠ s.ackByte) →
    s.script = List.replicate (n + 1) (.tick .ok) ++ more →
    run (n + 1) s =
      .next { s with
        script := more
        txq := q
        waitingForAck := s.waitingForAck || decide (0 < n)
        txw := s.txw ++ List.replicate n ⟨f, .ok⟩
        evt := s.evt ++ [⟨.error (.ackNotReceived f), s.listeners⟩] }

/-- R51 (c), R155, R263: a queue of polls is written one a tick, in order. -/
def Obligations.PollsDrainInOrder : Prop :=
  ∀ (fs : List (Frame × Nat)) (s : State) (q : List Item) (more : List Stimulus), s.connected = true →
    s.suspended = false → s.txq = fs.map (fun x => ⟨.poll, x.1, x.2⟩) ++ q →
    s.script = List.replicate fs.length (.tick .ok) ++ more →
    run fs.length s =
      .next { s with script := more, txq := q, txw := s.txw ++ fs.map (fun x => ⟨x.1, .ok⟩) }

/-- R251: the stale acknowledgement byte. A command sent to an empty queue whose checksum byte equals the recorded ack
byte is acknowledged at its first tick without being written, whatever the transport would have answered. -/
def Obligations.StaleAckAcknowledgesUnsentCommand : Prop :=
  ∀ (s : State) (f : Frame) (w : Draw) (more : List Stimulus), s.connected = true → s.suspended = false →
    s.txq = [] → (∀ c ∈ s.params.txqCap, 1 ≤ c) → 0 < s.params.retryN → s.ackValid = true → s.ackByte = f.cks →
    s.script = .sendC f :: .tick w :: more →
    run 2 s =
      .next { s with
        script := more
        waitingForAck := false
        evt := s.evt ++ [⟨.telegram .ack (some f), s.listeners⟩] }

/-- R252: a recorded ack byte is never SYNC, an invariant of every step, so a command whose checksum byte is SYNC is
never acknowledged. That exec refuses it as `notEnabled` is log 13 (DESIGN CHOICE). -/
def Obligations.SyncChecksumIsNeverAcknowledged : Prop :=
  State.reset.ackNotSync ∧
  (∀ s t : State, s.ackNotSync → step s = .next t → t.ackNotSync) ∧
  (∀ (s : State) (f : Frame), s.ackNotSync → f.cks = Config.sync → exec (.tickAcked f) s = .refused .notEnabled)

/-- R48, R117: the receive path as a whole. A connected engine in hunt state that is left alone consumes its queue,
byte by byte, and emits exactly one telegram for each candidate frame that hunt-and-fill finds in it, in order; the
send path is not touched. Left alone means that no stimulus is left: each step is then the assembler's own (log 2,
DESIGN CHOICE). -/
def Obligations.ReceivePathIsHuntAndFill : Prop :=
  ∀ s : State, s.connected = true → s.fidx = 0 → s.script = [] →
    ∃ t, run s.rxq.length s = .next t ∧ t.rxq = [] ∧
      t.events = s.events ++ telegramsOf s.params s.ownAddr s.rxq ∧
      t.txq = s.txq ∧ t.txw = s.txw ∧ t.connected = true ∧ t.ownAddr = s.ownAddr

/-- R117: one stray byte before a complete frame is dropped, and the frame gives exactly one telegram, with no
shift; whatever follows stays queued. -/
def Obligations.StrayByteThenFrameResynchronises : Prop :=
  ∀ (s : State) (b : Byte) (f : Frame) (rest : List Byte) (more : List Stimulus), s.connected = true → s.fidx = 0 →
    s.waitingForAck = false → b ≠ Config.sync → f.sync = Config.sync → s.rxq = b :: (f.bytes ++ rest) →
    s.script = List.replicate 7 .asm ++ more →
    run 7 s =
      .next { s with
        script := more
        rxq := rest
        fr := f
        suspended := verdictSuspended s.suspended (classify s.params s.ownAddr f)
        evt := s.evt ++ [⟨verdictTelegram f (classify s.params s.ownAddr f), s.listeners⟩] }

/-- R51 (f), R53: the assembler and the classifier read nothing of the send path: two states that agree on the
receive path, whatever their send queues, traces and `suspended`, take the same assembler step to states that agree on
it, and emit the same events. -/
def Obligations.ReceivePathIgnoresTheSendQueue : Prop :=
  ∀ (b : Byte) (i : Instr) (s t s' : State),
    (i = .asmSync ∨ i = .asmAck b ∨ i = .asmDrop b ∨ i = .asmFill b ∨ i = .asmLast b) →
    s.sameReceivePath t → exec i s = .next s' →
    ∃ t' es, exec i t = .next t' ∧ s'.sameReceivePath t' ∧ s'.events = s.events ++ es ∧ t'.events = t.events ++ es

/-- R51 (f), R53: a tick reads nothing of the receive path but the shared flags: two states that agree on the send
path, whatever is queued or half assembled on the receive side, take the same tick to states that agree on it. -/
def Obligations.TickIgnoresTheReceivePath : Prop :=
  ∀ (w : Draw) (s t s' : State), s.sameSendPath t → takeStimulus (.tick w) s = .next s' →
    ∃ t' es, takeStimulus (.tick w) t = .next t' ∧ s'.sameSendPath t' ∧ s'.events = s.events ++ es ∧
      t'.events = t.events ++ es
end

