-- ==== Sys2Proof/Laws/State.lean ====
section
/-! SUPPORT. One lemma per field per named operation: what it is afterwards. All by `rfl`. -/

namespace Sys2Proof.Machine

@[simp] theorem rxqPut_connected (b : Byte) (s : State) : (rxqPut b s).connected = s.connected := rfl
@[simp] theorem rxqPut_waitingForAck (b : Byte) (s : State) : (rxqPut b s).waitingForAck = s.waitingForAck := rfl
@[simp] theorem rxqPut_suspended (b : Byte) (s : State) : (rxqPut b s).suspended = s.suspended := rfl
@[simp] theorem rxqPut_ackValid (b : Byte) (s : State) : (rxqPut b s).ackValid = s.ackValid := rfl
@[simp] theorem rxqPut_ackByte (b : Byte) (s : State) : (rxqPut b s).ackByte = s.ackByte := rfl
@[simp] theorem rxqPut_ownAddr (b : Byte) (s : State) : (rxqPut b s).ownAddr = s.ownAddr := rfl
@[simp] theorem rxqPut_fr (b : Byte) (s : State) : (rxqPut b s).fr = s.fr := rfl
@[simp] theorem rxqPut_fidx (b : Byte) (s : State) : (rxqPut b s).fidx = s.fidx := rfl
@[simp] theorem rxqPut_rxq (b : Byte) (s : State) : (rxqPut b s).rxq = s.rxq ++ [b] := rfl
@[simp] theorem rxqPut_txq (b : Byte) (s : State) : (rxqPut b s).txq = s.txq := rfl
@[simp] theorem rxqPut_listeners (b : Byte) (s : State) : (rxqPut b s).listeners = s.listeners := rfl
@[simp] theorem rxqPut_evt (b : Byte) (s : State) : (rxqPut b s).evt = s.evt := rfl
@[simp] theorem rxqPut_txw (b : Byte) (s : State) : (rxqPut b s).txw = s.txw := rfl
@[simp] theorem rxqPut_ret (b : Byte) (s : State) : (rxqPut b s).ret = s.ret := rfl
@[simp] theorem rxqPut_script (b : Byte) (s : State) : (rxqPut b s).script = s.script := rfl
@[simp] theorem rxqPut_freeCount (b : Byte) (s : State) : (rxqPut b s).freeCount = s.freeCount := rfl
@[simp] theorem rxqPut_params (b : Byte) (s : State) : (rxqPut b s).params = s.params := rfl

@[simp] theorem rxqTake_connected (s : State) : (rxqTake s).connected = s.connected := rfl
@[simp] theorem rxqTake_waitingForAck (s : State) : (rxqTake s).waitingForAck = s.waitingForAck := rfl
@[simp] theorem rxqTake_suspended (s : State) : (rxqTake s).suspended = s.suspended := rfl
@[simp] theorem rxqTake_ackValid (s : State) : (rxqTake s).ackValid = s.ackValid := rfl
@[simp] theorem rxqTake_ackByte (s : State) : (rxqTake s).ackByte = s.ackByte := rfl
@[simp] theorem rxqTake_ownAddr (s : State) : (rxqTake s).ownAddr = s.ownAddr := rfl
@[simp] theorem rxqTake_fr (s : State) : (rxqTake s).fr = s.fr := rfl
@[simp] theorem rxqTake_fidx (s : State) : (rxqTake s).fidx = s.fidx := rfl
@[simp] theorem rxqTake_rxq (s : State) : (rxqTake s).rxq = s.rxq.tail := rfl
@[simp] theorem rxqTake_txq (s : State) : (rxqTake s).txq = s.txq := rfl
@[simp] theorem rxqTake_listeners (s : State) : (rxqTake s).listeners = s.listeners := rfl
@[simp] theorem rxqTake_evt (s : State) : (rxqTake s).evt = s.evt := rfl
@[simp] theorem rxqTake_txw (s : State) : (rxqTake s).txw = s.txw := rfl
@[simp] theorem rxqTake_ret (s : State) : (rxqTake s).ret = s.ret := rfl
@[simp] theorem rxqTake_script (s : State) : (rxqTake s).script = s.script := rfl
@[simp] theorem rxqTake_freeCount (s : State) : (rxqTake s).freeCount = s.freeCount := rfl
@[simp] theorem rxqTake_params (s : State) : (rxqTake s).params = s.params := rfl

@[simp] theorem rxqClear_connected (s : State) : (rxqClear s).connected = s.connected := rfl
@[simp] theorem rxqClear_waitingForAck (s : State) : (rxqClear s).waitingForAck = s.waitingForAck := rfl
@[simp] theorem rxqClear_suspended (s : State) : (rxqClear s).suspended = s.suspended := rfl
@[simp] theorem rxqClear_ackValid (s : State) : (rxqClear s).ackValid = s.ackValid := rfl
@[simp] theorem rxqClear_ackByte (s : State) : (rxqClear s).ackByte = s.ackByte := rfl
@[simp] theorem rxqClear_ownAddr (s : State) : (rxqClear s).ownAddr = s.ownAddr := rfl
@[simp] theorem rxqClear_fr (s : State) : (rxqClear s).fr = s.fr := rfl
@[simp] theorem rxqClear_fidx (s : State) : (rxqClear s).fidx = s.fidx := rfl
@[simp] theorem rxqClear_rxq (s : State) : (rxqClear s).rxq = [] := rfl
@[simp] theorem rxqClear_txq (s : State) : (rxqClear s).txq = s.txq := rfl
@[simp] theorem rxqClear_listeners (s : State) : (rxqClear s).listeners = s.listeners := rfl
@[simp] theorem rxqClear_evt (s : State) : (rxqClear s).evt = s.evt := rfl
@[simp] theorem rxqClear_txw (s : State) : (rxqClear s).txw = s.txw := rfl
@[simp] theorem rxqClear_ret (s : State) : (rxqClear s).ret = s.ret := rfl
@[simp] theorem rxqClear_script (s : State) : (rxqClear s).script = s.script := rfl
@[simp] theorem rxqClear_freeCount (s : State) : (rxqClear s).freeCount = s.freeCount := rfl
@[simp] theorem rxqClear_params (s : State) : (rxqClear s).params = s.params := rfl

@[simp] theorem txqPushBack_connected (it : Item) (s : State) : (txqPushBack it s).connected = s.connected := rfl
@[simp] theorem txqPushBack_waitingForAck (it : Item) (s : State) :
    (txqPushBack it s).waitingForAck = s.waitingForAck := rfl
@[simp] theorem txqPushBack_suspended (it : Item) (s : State) : (txqPushBack it s).suspended = s.suspended := rfl
@[simp] theorem txqPushBack_ackValid (it : Item) (s : State) : (txqPushBack it s).ackValid = s.ackValid := rfl
@[simp] theorem txqPushBack_ackByte (it : Item) (s : State) : (txqPushBack it s).ackByte = s.ackByte := rfl
@[simp] theorem txqPushBack_ownAddr (it : Item) (s : State) : (txqPushBack it s).ownAddr = s.ownAddr := rfl
@[simp] theorem txqPushBack_fr (it : Item) (s : State) : (txqPushBack it s).fr = s.fr := rfl
@[simp] theorem txqPushBack_fidx (it : Item) (s : State) : (txqPushBack it s).fidx = s.fidx := rfl
@[simp] theorem txqPushBack_rxq (it : Item) (s : State) : (txqPushBack it s).rxq = s.rxq := rfl
@[simp] theorem txqPushBack_txq (it : Item) (s : State) : (txqPushBack it s).txq = s.txq ++ [it] := rfl
@[simp] theorem txqPushBack_listeners (it : Item) (s : State) : (txqPushBack it s).listeners = s.listeners := rfl
@[simp] theorem txqPushBack_evt (it : Item) (s : State) : (txqPushBack it s).evt = s.evt := rfl
@[simp] theorem txqPushBack_txw (it : Item) (s : State) : (txqPushBack it s).txw = s.txw := rfl
@[simp] theorem txqPushBack_ret (it : Item) (s : State) : (txqPushBack it s).ret = s.ret := rfl
@[simp] theorem txqPushBack_script (it : Item) (s : State) : (txqPushBack it s).script = s.script := rfl
@[simp] theorem txqPushBack_freeCount (it : Item) (s : State) : (txqPushBack it s).freeCount = s.freeCount := rfl
@[simp] theorem txqPushBack_params (it : Item) (s : State) : (txqPushBack it s).params = s.params := rfl

@[simp] theorem txqPushFront_connected (it : Item) (s : State) : (txqPushFront it s).connected = s.connected := rfl
@[simp] theorem txqPushFront_waitingForAck (it : Item) (s : State) :
    (txqPushFront it s).waitingForAck = s.waitingForAck := rfl
@[simp] theorem txqPushFront_suspended (it : Item) (s : State) : (txqPushFront it s).suspended = s.suspended := rfl
@[simp] theorem txqPushFront_ackValid (it : Item) (s : State) : (txqPushFront it s).ackValid = s.ackValid := rfl
@[simp] theorem txqPushFront_ackByte (it : Item) (s : State) : (txqPushFront it s).ackByte = s.ackByte := rfl
@[simp] theorem txqPushFront_ownAddr (it : Item) (s : State) : (txqPushFront it s).ownAddr = s.ownAddr := rfl
@[simp] theorem txqPushFront_fr (it : Item) (s : State) : (txqPushFront it s).fr = s.fr := rfl
@[simp] theorem txqPushFront_fidx (it : Item) (s : State) : (txqPushFront it s).fidx = s.fidx := rfl
@[simp] theorem txqPushFront_rxq (it : Item) (s : State) : (txqPushFront it s).rxq = s.rxq := rfl
@[simp] theorem txqPushFront_txq (it : Item) (s : State) : (txqPushFront it s).txq = it :: s.txq := rfl
@[simp] theorem txqPushFront_listeners (it : Item) (s : State) : (txqPushFront it s).listeners = s.listeners := rfl
@[simp] theorem txqPushFront_evt (it : Item) (s : State) : (txqPushFront it s).evt = s.evt := rfl
@[simp] theorem txqPushFront_txw (it : Item) (s : State) : (txqPushFront it s).txw = s.txw := rfl
@[simp] theorem txqPushFront_ret (it : Item) (s : State) : (txqPushFront it s).ret = s.ret := rfl
@[simp] theorem txqPushFront_script (it : Item) (s : State) : (txqPushFront it s).script = s.script := rfl
@[simp] theorem txqPushFront_freeCount (it : Item) (s : State) : (txqPushFront it s).freeCount = s.freeCount := rfl
@[simp] theorem txqPushFront_params (it : Item) (s : State) : (txqPushFront it s).params = s.params := rfl

@[simp] theorem txqClear_connected (s : State) : (txqClear s).connected = s.connected := rfl
@[simp] theorem txqClear_waitingForAck (s : State) : (txqClear s).waitingForAck = s.waitingForAck := rfl
@[simp] theorem txqClear_suspended (s : State) : (txqClear s).suspended = s.suspended := rfl
@[simp] theorem txqClear_ackValid (s : State) : (txqClear s).ackValid = s.ackValid := rfl
@[simp] theorem txqClear_ackByte (s : State) : (txqClear s).ackByte = s.ackByte := rfl
@[simp] theorem txqClear_ownAddr (s : State) : (txqClear s).ownAddr = s.ownAddr := rfl
@[simp] theorem txqClear_fr (s : State) : (txqClear s).fr = s.fr := rfl
@[simp] theorem txqClear_fidx (s : State) : (txqClear s).fidx = s.fidx := rfl
@[simp] theorem txqClear_rxq (s : State) : (txqClear s).rxq = s.rxq := rfl
@[simp] theorem txqClear_txq (s : State) : (txqClear s).txq = [] := rfl
@[simp] theorem txqClear_listeners (s : State) : (txqClear s).listeners = s.listeners := rfl
@[simp] theorem txqClear_evt (s : State) : (txqClear s).evt = s.evt := rfl
@[simp] theorem txqClear_txw (s : State) : (txqClear s).txw = s.txw := rfl
@[simp] theorem txqClear_ret (s : State) : (txqClear s).ret = s.ret := rfl
@[simp] theorem txqClear_script (s : State) : (txqClear s).script = s.script := rfl
@[simp] theorem txqClear_freeCount (s : State) : (txqClear s).freeCount = s.freeCount := rfl
@[simp] theorem txqClear_params (s : State) : (txqClear s).params = s.params := rfl

@[simp] theorem txWrite_connected (f : Frame) (w : Draw) (s : State) :
    (txWrite f w s).connected = s.connected := rfl
@[simp] theorem txWrite_waitingForAck (f : Frame) (w : Draw) (s : State) :
    (txWrite f w s).waitingForAck = s.waitingForAck := rfl
@[simp] theorem txWrite_suspended (f : Frame) (w : Draw) (s : State) :
    (txWrite f w s).suspended = s.suspended := rfl
@[simp] theorem txWrite_ackValid (f : Frame) (w : Draw) (s : State) : (txWrite f w s).ackValid = s.ackValid := rfl
@[simp] theorem txWrite_ackByte (f : Frame) (w : Draw) (s : State) : (txWrite f w s).ackByte = s.ackByte := rfl
@[simp] theorem txWrite_ownAddr (f : Frame) (w : Draw) (s : State) : (txWrite f w s).ownAddr = s.ownAddr := rfl
@[simp] theorem txWrite_fr (f : Frame) (w : Draw) (s : State) : (txWrite f w s).fr = s.fr := rfl
@[simp] theorem txWrite_fidx (f : Frame) (w : Draw) (s : State) : (txWrite f w s).fidx = s.fidx := rfl
@[simp] theorem txWrite_rxq (f : Frame) (w : Draw) (s : State) : (txWrite f w s).rxq = s.rxq := rfl
@[simp] theorem txWrite_txq (f : Frame) (w : Draw) (s : State) : (txWrite f w s).txq = s.txq := rfl
@[simp] theorem txWrite_listeners (f : Frame) (w : Draw) (s : State) :
    (txWrite f w s).listeners = s.listeners := rfl
@[simp] theorem txWrite_evt (f : Frame) (w : Draw) (s : State) : (txWrite f w s).evt = s.evt := rfl
@[simp] theorem txWrite_txw (f : Frame) (w : Draw) (s : State) : (txWrite f w s).txw = s.txw ++ [⟨f, w⟩] := rfl
@[simp] theorem txWrite_ret (f : Frame) (w : Draw) (s : State) : (txWrite f w s).ret = s.ret := rfl
@[simp] theorem txWrite_script (f : Frame) (w : Draw) (s : State) : (txWrite f w s).script = s.script := rfl
@[simp] theorem txWrite_freeCount (f : Frame) (w : Draw) (s : State) :
    (txWrite f w s).freeCount = s.freeCount := rfl
@[simp] theorem txWrite_params (f : Frame) (w : Draw) (s : State) : (txWrite f w s).params = s.params := rfl

@[simp] theorem post_connected (e : Event) (s : State) : (post e s).connected = s.connected := rfl
@[simp] theorem post_waitingForAck (e : Event) (s : State) : (post e s).waitingForAck = s.waitingForAck := rfl
@[simp] theorem post_suspended (e : Event) (s : State) : (post e s).suspended = s.suspended := rfl
@[simp] theorem post_ackValid (e : Event) (s : State) : (post e s).ackValid = s.ackValid := rfl
@[simp] theorem post_ackByte (e : Event) (s : State) : (post e s).ackByte = s.ackByte := rfl
@[simp] theorem post_ownAddr (e : Event) (s : State) : (post e s).ownAddr = s.ownAddr := rfl
@[simp] theorem post_fr (e : Event) (s : State) : (post e s).fr = s.fr := rfl
@[simp] theorem post_fidx (e : Event) (s : State) : (post e s).fidx = s.fidx := rfl
@[simp] theorem post_rxq (e : Event) (s : State) : (post e s).rxq = s.rxq := rfl
@[simp] theorem post_txq (e : Event) (s : State) : (post e s).txq = s.txq := rfl
@[simp] theorem post_listeners (e : Event) (s : State) : (post e s).listeners = s.listeners := rfl
@[simp] theorem post_evt (e : Event) (s : State) : (post e s).evt = s.evt ++ [⟨e, s.listeners⟩] := rfl
@[simp] theorem post_txw (e : Event) (s : State) : (post e s).txw = s.txw := rfl
@[simp] theorem post_ret (e : Event) (s : State) : (post e s).ret = s.ret := rfl
@[simp] theorem post_script (e : Event) (s : State) : (post e s).script = s.script := rfl
@[simp] theorem post_freeCount (e : Event) (s : State) : (post e s).freeCount = s.freeCount := rfl
@[simp] theorem post_params (e : Event) (s : State) : (post e s).params = s.params := rfl

@[simp] theorem emitTelegram_connected (g : Tag) (p : Option Frame) (s : State) :
    (emitTelegram g p s).connected = s.connected := rfl
@[simp] theorem emitTelegram_waitingForAck (g : Tag) (p : Option Frame) (s : State) :
    (emitTelegram g p s).waitingForAck = s.waitingForAck := rfl
@[simp] theorem emitTelegram_suspended (g : Tag) (p : Option Frame) (s : State) :
    (emitTelegram g p s).suspended = s.suspended := rfl
@[simp] theorem emitTelegram_ackValid (g : Tag) (p : Option Frame) (s : State) :
    (emitTelegram g p s).ackValid = s.ackValid := rfl
@[simp] theorem emitTelegram_ackByte (g : Tag) (p : Option Frame) (s : State) :
    (emitTelegram g p s).ackByte = s.ackByte := rfl
@[simp] theorem emitTelegram_ownAddr (g : Tag) (p : Option Frame) (s : State) :
    (emitTelegram g p s).ownAddr = s.ownAddr := rfl
@[simp] theorem emitTelegram_fr (g : Tag) (p : Option Frame) (s : State) : (emitTelegram g p s).fr = s.fr := rfl
@[simp] theorem emitTelegram_fidx (g : Tag) (p : Option Frame) (s : State) :
    (emitTelegram g p s).fidx = s.fidx := rfl
@[simp] theorem emitTelegram_rxq (g : Tag) (p : Option Frame) (s : State) : (emitTelegram g p s).rxq = s.rxq := rfl
@[simp] theorem emitTelegram_txq (g : Tag) (p : Option Frame) (s : State) : (emitTelegram g p s).txq = s.txq := rfl
@[simp] theorem emitTelegram_listeners (g : Tag) (p : Option Frame) (s : State) :
    (emitTelegram g p s).listeners = s.listeners := rfl
@[simp] theorem emitTelegram_evt (g : Tag) (p : Option Frame) (s : State) :
    (emitTelegram g p s).evt = s.evt ++ [⟨.telegram g p, s.listeners⟩] := rfl
@[simp] theorem emitTelegram_txw (g : Tag) (p : Option Frame) (s : State) : (emitTelegram g p s).txw = s.txw := rfl
@[simp] theorem emitTelegram_ret (g : Tag) (p : Option Frame) (s : State) : (emitTelegram g p s).ret = s.ret := rfl
@[simp] theorem emitTelegram_script (g : Tag) (p : Option Frame) (s : State) :
    (emitTelegram g p s).script = s.script := rfl
@[simp] theorem emitTelegram_freeCount (g : Tag) (p : Option Frame) (s : State) :
    (emitTelegram g p s).freeCount = s.freeCount := rfl
@[simp] theorem emitTelegram_params (g : Tag) (p : Option Frame) (s : State) :
    (emitTelegram g p s).params = s.params := rfl

@[simp] theorem raiseErr_connected (e : Err) (s : State) : (raiseErr e s).connected = s.connected := rfl
@[simp] theorem raiseErr_waitingForAck (e : Err) (s : State) : (raiseErr e s).waitingForAck = s.waitingForAck := rfl
@[simp] theorem raiseErr_suspended (e : Err) (s : State) : (raiseErr e s).suspended = s.suspended := rfl
@[simp] theorem raiseErr_ackValid (e : Err) (s : State) : (raiseErr e s).ackValid = s.ackValid := rfl
@[simp] theorem raiseErr_ackByte (e : Err) (s : State) : (raiseErr e s).ackByte = s.ackByte := rfl
@[simp] theorem raiseErr_ownAddr (e : Err) (s : State) : (raiseErr e s).ownAddr = s.ownAddr := rfl
@[simp] theorem raiseErr_fr (e : Err) (s : State) : (raiseErr e s).fr = s.fr := rfl
@[simp] theorem raiseErr_fidx (e : Err) (s : State) : (raiseErr e s).fidx = s.fidx := rfl
@[simp] theorem raiseErr_rxq (e : Err) (s : State) : (raiseErr e s).rxq = s.rxq := rfl
@[simp] theorem raiseErr_txq (e : Err) (s : State) : (raiseErr e s).txq = s.txq := rfl
@[simp] theorem raiseErr_listeners (e : Err) (s : State) : (raiseErr e s).listeners = s.listeners := rfl
@[simp] theorem raiseErr_evt (e : Err) (s : State) : (raiseErr e s).evt = s.evt ++ [⟨.error e, s.listeners⟩] := rfl
@[simp] theorem raiseErr_txw (e : Err) (s : State) : (raiseErr e s).txw = s.txw := rfl
@[simp] theorem raiseErr_ret (e : Err) (s : State) : (raiseErr e s).ret = s.ret := rfl
@[simp] theorem raiseErr_script (e : Err) (s : State) : (raiseErr e s).script = s.script := rfl
@[simp] theorem raiseErr_freeCount (e : Err) (s : State) : (raiseErr e s).freeCount = s.freeCount := rfl
@[simp] theorem raiseErr_params (e : Err) (s : State) : (raiseErr e s).params = s.params := rfl

@[simp] theorem giveBack_connected (r : Return) (s : State) : (giveBack r s).connected = s.connected := rfl
@[simp] theorem giveBack_waitingForAck (r : Return) (s : State) :
    (giveBack r s).waitingForAck = s.waitingForAck := rfl
@[simp] theorem giveBack_suspended (r : Return) (s : State) : (giveBack r s).suspended = s.suspended := rfl
@[simp] theorem giveBack_ackValid (r : Return) (s : State) : (giveBack r s).ackValid = s.ackValid := rfl
@[simp] theorem giveBack_ackByte (r : Return) (s : State) : (giveBack r s).ackByte = s.ackByte := rfl
@[simp] theorem giveBack_ownAddr (r : Return) (s : State) : (giveBack r s).ownAddr = s.ownAddr := rfl
@[simp] theorem giveBack_fr (r : Return) (s : State) : (giveBack r s).fr = s.fr := rfl
@[simp] theorem giveBack_fidx (r : Return) (s : State) : (giveBack r s).fidx = s.fidx := rfl
@[simp] theorem giveBack_rxq (r : Return) (s : State) : (giveBack r s).rxq = s.rxq := rfl
@[simp] theorem giveBack_txq (r : Return) (s : State) : (giveBack r s).txq = s.txq := rfl
@[simp] theorem giveBack_listeners (r : Return) (s : State) : (giveBack r s).listeners = s.listeners := rfl
@[simp] theorem giveBack_evt (r : Return) (s : State) : (giveBack r s).evt = s.evt := rfl
@[simp] theorem giveBack_txw (r : Return) (s : State) : (giveBack r s).txw = s.txw := rfl
@[simp] theorem giveBack_ret (r : Return) (s : State) : (giveBack r s).ret = s.ret ++ [r] := rfl
@[simp] theorem giveBack_script (r : Return) (s : State) : (giveBack r s).script = s.script := rfl
@[simp] theorem giveBack_freeCount (r : Return) (s : State) : (giveBack r s).freeCount = s.freeCount := rfl
@[simp] theorem giveBack_params (r : Return) (s : State) : (giveBack r s).params = s.params := rfl

@[simp] theorem frWrite_connected (i : Fin Config.frameLen) (v : Byte) (s : State) :
    (frWrite i v s).connected = s.connected := rfl
@[simp] theorem frWrite_waitingForAck (i : Fin Config.frameLen) (v : Byte) (s : State) :
    (frWrite i v s).waitingForAck = s.waitingForAck := rfl
@[simp] theorem frWrite_suspended (i : Fin Config.frameLen) (v : Byte) (s : State) :
    (frWrite i v s).suspended = s.suspended := rfl
@[simp] theorem frWrite_ackValid (i : Fin Config.frameLen) (v : Byte) (s : State) :
    (frWrite i v s).ackValid = s.ackValid := rfl
@[simp] theorem frWrite_ackByte (i : Fin Config.frameLen) (v : Byte) (s : State) :
    (frWrite i v s).ackByte = s.ackByte := rfl
@[simp] theorem frWrite_ownAddr (i : Fin Config.frameLen) (v : Byte) (s : State) :
    (frWrite i v s).ownAddr = s.ownAddr := rfl
@[simp] theorem frWrite_fr (i : Fin Config.frameLen) (v : Byte) (s : State) :
    (frWrite i v s).fr = s.fr.set i v := rfl
@[simp] theorem frWrite_fidx (i : Fin Config.frameLen) (v : Byte) (s : State) : (frWrite i v s).fidx = s.fidx := rfl
@[simp] theorem frWrite_rxq (i : Fin Config.frameLen) (v : Byte) (s : State) : (frWrite i v s).rxq = s.rxq := rfl
@[simp] theorem frWrite_txq (i : Fin Config.frameLen) (v : Byte) (s : State) : (frWrite i v s).txq = s.txq := rfl
@[simp] theorem frWrite_listeners (i : Fin Config.frameLen) (v : Byte) (s : State) :
    (frWrite i v s).listeners = s.listeners := rfl
@[simp] theorem frWrite_evt (i : Fin Config.frameLen) (v : Byte) (s : State) : (frWrite i v s).evt = s.evt := rfl
@[simp] theorem frWrite_txw (i : Fin Config.frameLen) (v : Byte) (s : State) : (frWrite i v s).txw = s.txw := rfl
@[simp] theorem frWrite_ret (i : Fin Config.frameLen) (v : Byte) (s : State) : (frWrite i v s).ret = s.ret := rfl
@[simp] theorem frWrite_script (i : Fin Config.frameLen) (v : Byte) (s : State) :
    (frWrite i v s).script = s.script := rfl
@[simp] theorem frWrite_freeCount (i : Fin Config.frameLen) (v : Byte) (s : State) :
    (frWrite i v s).freeCount = s.freeCount := rfl
@[simp] theorem frWrite_params (i : Fin Config.frameLen) (v : Byte) (s : State) :
    (frWrite i v s).params = s.params := rfl

@[simp] theorem fidxWrite_connected (n : Fin Config.frameLen) (s : State) :
    (fidxWrite n s).connected = s.connected := rfl
@[simp] theorem fidxWrite_waitingForAck (n : Fin Config.frameLen) (s : State) :
    (fidxWrite n s).waitingForAck = s.waitingForAck := rfl
@[simp] theorem fidxWrite_suspended (n : Fin Config.frameLen) (s : State) :
    (fidxWrite n s).suspended = s.suspended := rfl
@[simp] theorem fidxWrite_ackValid (n : Fin Config.frameLen) (s : State) :
    (fidxWrite n s).ackValid = s.ackValid := rfl
@[simp] theorem fidxWrite_ackByte (n : Fin Config.frameLen) (s : State) : (fidxWrite n s).ackByte = s.ackByte := rfl
@[simp] theorem fidxWrite_ownAddr (n : Fin Config.frameLen) (s : State) : (fidxWrite n s).ownAddr = s.ownAddr := rfl
@[simp] theorem fidxWrite_fr (n : Fin Config.frameLen) (s : State) : (fidxWrite n s).fr = s.fr := rfl
@[simp] theorem fidxWrite_fidx (n : Fin Config.frameLen) (s : State) : (fidxWrite n s).fidx = n := rfl
@[simp] theorem fidxWrite_rxq (n : Fin Config.frameLen) (s : State) : (fidxWrite n s).rxq = s.rxq := rfl
@[simp] theorem fidxWrite_txq (n : Fin Config.frameLen) (s : State) : (fidxWrite n s).txq = s.txq := rfl
@[simp] theorem fidxWrite_listeners (n : Fin Config.frameLen) (s : State) :
    (fidxWrite n s).listeners = s.listeners := rfl
@[simp] theorem fidxWrite_evt (n : Fin Config.frameLen) (s : State) : (fidxWrite n s).evt = s.evt := rfl
@[simp] theorem fidxWrite_txw (n : Fin Config.frameLen) (s : State) : (fidxWrite n s).txw = s.txw := rfl
@[simp] theorem fidxWrite_ret (n : Fin Config.frameLen) (s : State) : (fidxWrite n s).ret = s.ret := rfl
@[simp] theorem fidxWrite_script (n : Fin Config.frameLen) (s : State) : (fidxWrite n s).script = s.script := rfl
@[simp] theorem fidxWrite_freeCount (n : Fin Config.frameLen) (s : State) :
    (fidxWrite n s).freeCount = s.freeCount := rfl
@[simp] theorem fidxWrite_params (n : Fin Config.frameLen) (s : State) : (fidxWrite n s).params = s.params := rfl

@[simp] theorem freeAckByte_connected (s : State) : (freeAckByte s).connected = s.connected := rfl
@[simp] theorem freeAckByte_waitingForAck (s : State) : (freeAckByte s).waitingForAck = s.waitingForAck := rfl
@[simp] theorem freeAckByte_suspended (s : State) : (freeAckByte s).suspended = s.suspended := rfl
@[simp] theorem freeAckByte_ackValid (s : State) : (freeAckByte s).ackValid = s.ackValid := rfl
@[simp] theorem freeAckByte_ackByte (s : State) : (freeAckByte s).ackByte = Config.freeByte s.freeCount := rfl
@[simp] theorem freeAckByte_ownAddr (s : State) : (freeAckByte s).ownAddr = s.ownAddr := rfl
@[simp] theorem freeAckByte_fr (s : State) : (freeAckByte s).fr = s.fr := rfl
@[simp] theorem freeAckByte_fidx (s : State) : (freeAckByte s).fidx = s.fidx := rfl
@[simp] theorem freeAckByte_rxq (s : State) : (freeAckByte s).rxq = s.rxq := rfl
@[simp] theorem freeAckByte_txq (s : State) : (freeAckByte s).txq = s.txq := rfl
@[simp] theorem freeAckByte_listeners (s : State) : (freeAckByte s).listeners = s.listeners := rfl
@[simp] theorem freeAckByte_evt (s : State) : (freeAckByte s).evt = s.evt := rfl
@[simp] theorem freeAckByte_txw (s : State) : (freeAckByte s).txw = s.txw := rfl
@[simp] theorem freeAckByte_ret (s : State) : (freeAckByte s).ret = s.ret := rfl
@[simp] theorem freeAckByte_script (s : State) : (freeAckByte s).script = s.script := rfl
@[simp] theorem freeAckByte_freeCount (s : State) : (freeAckByte s).freeCount = s.freeCount + 1 := rfl
@[simp] theorem freeAckByte_params (s : State) : (freeAckByte s).params = s.params := rfl

@[simp] theorem freeOwnAddr_connected (s : State) : (freeOwnAddr s).connected = s.connected := rfl
@[simp] theorem freeOwnAddr_waitingForAck (s : State) : (freeOwnAddr s).waitingForAck = s.waitingForAck := rfl
@[simp] theorem freeOwnAddr_suspended (s : State) : (freeOwnAddr s).suspended = s.suspended := rfl
@[simp] theorem freeOwnAddr_ackValid (s : State) : (freeOwnAddr s).ackValid = s.ackValid := rfl
@[simp] theorem freeOwnAddr_ackByte (s : State) : (freeOwnAddr s).ackByte = s.ackByte := rfl
@[simp] theorem freeOwnAddr_ownAddr (s : State) : (freeOwnAddr s).ownAddr = Config.freeByte s.freeCount := rfl
@[simp] theorem freeOwnAddr_fr (s : State) : (freeOwnAddr s).fr = s.fr := rfl
@[simp] theorem freeOwnAddr_fidx (s : State) : (freeOwnAddr s).fidx = s.fidx := rfl
@[simp] theorem freeOwnAddr_rxq (s : State) : (freeOwnAddr s).rxq = s.rxq := rfl
@[simp] theorem freeOwnAddr_txq (s : State) : (freeOwnAddr s).txq = s.txq := rfl
@[simp] theorem freeOwnAddr_listeners (s : State) : (freeOwnAddr s).listeners = s.listeners := rfl
@[simp] theorem freeOwnAddr_evt (s : State) : (freeOwnAddr s).evt = s.evt := rfl
@[simp] theorem freeOwnAddr_txw (s : State) : (freeOwnAddr s).txw = s.txw := rfl
@[simp] theorem freeOwnAddr_ret (s : State) : (freeOwnAddr s).ret = s.ret := rfl
@[simp] theorem freeOwnAddr_script (s : State) : (freeOwnAddr s).script = s.script := rfl
@[simp] theorem freeOwnAddr_freeCount (s : State) : (freeOwnAddr s).freeCount = s.freeCount + 1 := rfl
@[simp] theorem freeOwnAddr_params (s : State) : (freeOwnAddr s).params = s.params := rfl

@[simp] theorem freeFr_connected (s : State) : (freeFr s).connected = s.connected := rfl
@[simp] theorem freeFr_waitingForAck (s : State) : (freeFr s).waitingForAck = s.waitingForAck := rfl
@[simp] theorem freeFr_suspended (s : State) : (freeFr s).suspended = s.suspended := rfl
@[simp] theorem freeFr_ackValid (s : State) : (freeFr s).ackValid = s.ackValid := rfl
@[simp] theorem freeFr_ackByte (s : State) : (freeFr s).ackByte = s.ackByte := rfl
@[simp] theorem freeFr_ownAddr (s : State) : (freeFr s).ownAddr = s.ownAddr := rfl
@[simp] theorem freeFr_fr (s : State) :
    (freeFr s).fr = ⟨Config.freeByte s.freeCount, Config.freeByte (s.freeCount + 1), Config.freeByte (s.freeCount + 2), Config.freeByte (s.freeCount + 3), Config.freeByte (s.freeCount + 4), Config.freeByte (s.freeCount + 5)⟩ := rfl
@[simp] theorem freeFr_fidx (s : State) : (freeFr s).fidx = s.fidx := rfl
@[simp] theorem freeFr_rxq (s : State) : (freeFr s).rxq = s.rxq := rfl
@[simp] theorem freeFr_txq (s : State) : (freeFr s).txq = s.txq := rfl
@[simp] theorem freeFr_listeners (s : State) : (freeFr s).listeners = s.listeners := rfl
@[simp] theorem freeFr_evt (s : State) : (freeFr s).evt = s.evt := rfl
@[simp] theorem freeFr_txw (s : State) : (freeFr s).txw = s.txw := rfl
@[simp] theorem freeFr_ret (s : State) : (freeFr s).ret = s.ret := rfl
@[simp] theorem freeFr_script (s : State) : (freeFr s).script = s.script := rfl
@[simp] theorem freeFr_freeCount (s : State) : (freeFr s).freeCount = s.freeCount + 6 := rfl
@[simp] theorem freeFr_params (s : State) : (freeFr s).params = s.params := rfl

@[simp] theorem dropStimulus_connected (s : State) : (dropStimulus s).connected = s.connected := rfl
@[simp] theorem dropStimulus_waitingForAck (s : State) : (dropStimulus s).waitingForAck = s.waitingForAck := rfl
@[simp] theorem dropStimulus_suspended (s : State) : (dropStimulus s).suspended = s.suspended := rfl
@[simp] theorem dropStimulus_ackValid (s : State) : (dropStimulus s).ackValid = s.ackValid := rfl
@[simp] theorem dropStimulus_ackByte (s : State) : (dropStimulus s).ackByte = s.ackByte := rfl
@[simp] theorem dropStimulus_ownAddr (s : State) : (dropStimulus s).ownAddr = s.ownAddr := rfl
@[simp] theorem dropStimulus_fr (s : State) : (dropStimulus s).fr = s.fr := rfl
@[simp] theorem dropStimulus_fidx (s : State) : (dropStimulus s).fidx = s.fidx := rfl
@[simp] theorem dropStimulus_rxq (s : State) : (dropStimulus s).rxq = s.rxq := rfl
@[simp] theorem dropStimulus_txq (s : State) : (dropStimulus s).txq = s.txq := rfl
@[simp] theorem dropStimulus_listeners (s : State) : (dropStimulus s).listeners = s.listeners := rfl
@[simp] theorem dropStimulus_evt (s : State) : (dropStimulus s).evt = s.evt := rfl
@[simp] theorem dropStimulus_txw (s : State) : (dropStimulus s).txw = s.txw := rfl
@[simp] theorem dropStimulus_ret (s : State) : (dropStimulus s).ret = s.ret := rfl
@[simp] theorem dropStimulus_script (s : State) : (dropStimulus s).script = s.script.tail := rfl
@[simp] theorem dropStimulus_freeCount (s : State) : (dropStimulus s).freeCount = s.freeCount := rfl
@[simp] theorem dropStimulus_params (s : State) : (dropStimulus s).params = s.params := rfl

@[simp] theorem view_connected (s : State) : s.view.connected = s.connected := rfl
@[simp] theorem view_waitingForAck (s : State) : s.view.waitingForAck = s.waitingForAck := rfl
@[simp] theorem view_suspended (s : State) : s.view.suspended = s.suspended := rfl
@[simp] theorem view_ackValid (s : State) : s.view.ackValid = s.ackValid := rfl
@[simp] theorem view_ackByte (s : State) : s.view.ackByte = s.ackByte := rfl
@[simp] theorem view_ownAddr (s : State) : s.view.ownAddr = s.ownAddr := rfl
@[simp] theorem view_fidx (s : State) : s.view.fidx = s.fidx := rfl
@[simp] theorem view_rxFull (s : State) : s.view.rxFull = s.rxFull := rfl
@[simp] theorem view_headRetries (s : State) : s.view.headRetries = s.headRetries := rfl
@[simp] theorem view_params (s : State) : s.view.params = s.params := rfl
@[simp] theorem view_txEmpty (s : State) : s.view.txEmpty = s.txq.isEmpty := rfl

end Sys2Proof.Machine
end

