-- ==== Sys2Proof/Laws/Ops.lean ====
section
/-! SUPPORT. What each shared operation can do, said once: operand assembly, the guard of a meaning, the queue
operations, SEND, the listener set, the classifier, CONNECT's initialisation. -/

namespace Sys2Proof

@[simp] theorem Frame.get_set_self (f : Frame) (i : Fin Config.frameLen) (v : Byte) : (f.set i v).get i = v := by
  fin_cases i <;> rfl

theorem Frame.get_set_other (f : Frame) (i j : Fin Config.frameLen) (v : Byte) (h : i ≠ j) :
    (f.set i v).get j = f.get j := by
  fin_cases i <;> fin_cases j <;> first | rfl | exact absurd rfl h

theorem Frame.bytes_length (f : Frame) : f.bytes.length = Config.frameLen := rfl

theorem itemBytes_length (k : Kind) (f : Frame) : (itemBytes k f).length = 7 := rfl

theorem unitFrame_bytes (f : Frame) : unitFrame f.bytes = some f := rfl

theorem unitItem_itemBytes (k : Kind) (f : Frame) : unitItem (itemBytes k f) = .ok (k, f) := by
  cases k <;> rfl

theorem unitFrame_eq_some {u : List Byte} {f : Frame} : unitFrame u = some f ↔ u = f.bytes := by
  constructor
  · intro h
    match u, h with
    | [a, b, c, d, e, g], h => cases h; rfl
  · rintro rfl; rfl

theorem decodeKind_eq_some {b : Byte} {k : Kind} : decodeKind b = some k ↔ b = k.code.setWidth 8 := by
  unfold decodeKind
  cases k <;> (split_ifs with h0 h1 <;> simp_all [Kind.code])

/-- The unit of format Q is read back exactly from its own bytes. -/
theorem unitItem_eq_ok {u : List Byte} {k : Kind} {f : Frame} : unitItem u = .ok (k, f) ↔ u = itemBytes k f := by
  constructor
  · intro h
    match u, h with
    | [x, a, b, c, d, e, g], h =>
      rw [unitItem] at h
      cases hk : decodeKind x with
      | none => simp [hk] at h
      | some k' =>
        simp only [hk, Except.ok.injEq, Prod.mk.injEq] at h
        obtain ⟨rfl, rfl⟩ := h
        rw [decodeKind_eq_some.1 hk]; rfl
  · rintro rfl; exact unitItem_itemBytes k f

theorem Frame.valid_iff (f : Frame) : f.valid = true ↔ f.sum % 256 = f.cks.toNat := by
  simp only [Frame.valid, checksum, beq_iff_eq, ← BitVec.toNat_inj, BitVec.toNat_ofNat]
  omega

/-- The checksum is the sum in an 8-bit accumulator that wraps around (R130). -/
theorem checksum_eq_wrapping (f : Frame) : checksum f = f.sync + f.src + f.dst + f.var + f.val := by
  apply BitVec.eq_of_toNat_eq
  simp only [checksum, Frame.sum, BitVec.toNat_ofNat, BitVec.toNat_add]
  omega

namespace Machine

/-- The guard, both ways (log 13). -/
theorem whenEnabled_eq_next {i : Instr} {s t e : State} :
    whenEnabled i s e = .next t ↔ s.enables i = true ∧ t = e := by
  unfold whenEnabled
  split
  · rename_i h
    exact ⟨fun e => ⟨h, (Host.Outcome.next.inj e).symm⟩, fun e => e.2 ▸ rfl⟩
  · rename_i h
    exact ⟨fun e => (by cases e), fun e => absurd e.1 h⟩

theorem whenEnabled_true {i : Instr} {s e : State} (h : s.enables i = true) : whenEnabled i s e = .next e :=
  if_pos h

theorem whenEnabled_false {i : Instr} {s e : State} (h : s.enables i = false) :
    whenEnabled i s e = .refused .notEnabled := by
  simp [whenEnabled, h]

@[simp] theorem txqPop_nil {s : State} {rest : Item → State → State} (h : s.txq = []) : txqPop s rest = s := by
  simp [txqPop, h]

@[simp] theorem txqPop_cons {s : State} {it : Item} {q : List Item} {rest : Item → State → State}
    (h : s.txq = it :: q) : txqPop s rest = rest it { s with txq := q } := by
  simp [txqPop, h]

/-- What SEND can do (R151, R152). -/
theorem sendItem_cases (k : Kind) (f : Frame) (s : State) :
    (s.connected = false ∧ sendItem k f s = s) ∨
    (s.connected = true ∧ s.txFull = true ∧ sendItem k f s = raiseErr (.txqFull f) s) ∨
    (s.connected = true ∧ s.txFull = false ∧ sendItem k f s = { s with txq := s.txq ++ [newItem k f s] }) := by
  unfold sendItem txqPushBack
  cases s.connected <;> cases s.txFull <;> simp

theorem rxFull_eq_false {s : State} : s.rxFull = false ↔ s.rxq.length < s.params.rxqCap := by
  simp [State.rxFull]

theorem txFull_eq_false {s : State} : s.txFull = false ↔ ∀ c ∈ s.params.txqCap, s.txq.length < c := by
  unfold State.txFull
  cases s.params.txqCap <;> simp

theorem rxHeadIs_iff {s : State} {b : Byte} : s.rxHeadIs b = true ↔ ∃ rest, s.rxq = b :: rest := by
  unfold State.rxHeadIs
  cases s.rxq <;> simp

theorem txHeadIs_iff {s : State} {k : Kind} {f : Frame} :
    s.txHeadIs k f = true ↔ ∃ r q, s.txq = ⟨k, f, r⟩ :: q := by
  unfold State.txHeadIs
  rcases s.txq with _ | ⟨⟨k', f', r'⟩, q⟩
  · simp
  · simp [and_assoc]

theorem mem_insertListener {l x : Listener} {ls : List Listener} :
    x ∈ insertListener l ls ↔ x = l ∨ x ∈ ls := by
  induction ls with
  | nil => simp [insertListener]
  | cons y ys ih =>
    unfold insertListener
    split_ifs with h1 h2
    · simp
    · subst h2; simp
    · simp [ih]; tauto

theorem mem_eraseListener {l x : Listener} {ls : List Listener} : x ∈ eraseListener l ls ↔ x ∈ ls ∧ x ≠ l := by
  simp [eraseListener]

theorem insertListener_rising {l : Listener} {ls : List Listener} (h : ls.Pairwise (· < ·)) :
    (insertListener l ls).Pairwise (· < ·) := by
  induction ls with
  | nil => simp [insertListener]
  | cons y ys ih =>
    obtain ⟨hy, hys⟩ := List.pairwise_cons.1 h
    unfold insertListener
    split_ifs with h1 h2
    · refine List.pairwise_cons.2 ⟨fun z hz => ?_, h⟩
      rcases List.mem_cons.1 hz with rfl | hz
      · exact h1
      · exact lt_trans h1 (hy z hz)
    · exact h
    · refine List.pairwise_cons.2 ⟨fun z hz => ?_, ih hys⟩
      rcases mem_insertListener.1 hz with rfl | hz
      · exact lt_of_le_of_ne (not_lt.1 h1) (Ne.symm h2)
      · exact hy z hz

theorem eraseListener_rising {l : Listener} {ls : List Listener} (h : ls.Pairwise (· < ·)) :
    (eraseListener l ls).Pairwise (· < ·) := h.filter _

/-- The verdict's operation is the one the table's conditions select (R81, R131). -/
theorem classify_condition (v : View) (f : Frame) :
    ((classify v.params v.ownAddr f).op f).condition v = true := by
  have hv : f.valid = true ↔ checksum f = f.get 5 := by simp [Frame.valid, Frame.get]
  unfold classify
  split_ifs with h1 h2 h3 h4
  · have : f.valid = false := by rw [← Bool.not_eq_true, hv]; exact h1
    simp [Verdict.op, Instr.condition, this]
  all_goals have h1 : f.valid = true := hv.2 (not_not.1 h1)
  · simp [Verdict.op, Instr.condition, h1, h2]
  · simp [Verdict.op, Instr.condition, h1, h3, h3 ▸ h2]
  · simp [Verdict.op, Instr.condition, h1, h2, h3, h4]
  · simp [Verdict.op, Instr.condition, h1, h2, h3, h4]

/-- What the classifier does on any state: one telegram, and `suspended` by the verdict (R131 to R136). -/
theorem runClassifier_eq (s : State) :
    runClassifier s = .next { s with
      suspended := verdictSuspended s.suspended (classify s.params s.ownAddr s.fr)
      evt := s.evt ++ [⟨verdictTelegram s.fr (classify s.params s.ownAddr s.fr), s.listeners⟩] } := by
  have hen : s.enables ((classify s.params s.ownAddr s.fr).op s.fr) = true := by
    have hc := classify_condition s.view s.fr
    have ho : ∀ v : Verdict, s.holdsOperand (v.op s.fr) = true := by
      intro v; cases v <;> simp [Verdict.op, State.holdsOperand]
    simp only [view_params, view_ownAddr] at hc
    simp [State.enables, hc, ho]
  unfold runClassifier
  generalize classify s.params s.ownAddr s.fr = v at hen ⊢
  cases v <;> exact whenEnabled_true hen

end Machine

end Sys2Proof
end

