-- ==== Sys2Proof/Laws/Exec.lean ====
section
/-! SUPPORT. What an operation and a step can do, said once: the effect of each operation as a function of the state,
the inversion of `exec`, and the inversion of `step`. -/

namespace Sys2Proof.Machine

/-- The state after each operation where it is selected. -/
def effectOf (i : Instr) (s : State) : State :=
  match i with
  | .rxpush b => if s.connected then rxqPut b s else s
  | .rxpushOvf _ => raiseErr .rxqOverflow (rxqClear s)
  | .rxerr k => if s.connected then raiseErr (.lineError k) s else s
  | .rxioerr => if s.connected then raiseErr .rxIo s else s
  | .asmSync => fidxWrite 1 (frWrite 0 Config.sync (rxqTake s))
  | .asmAck b => { rxqTake s with ackByte := b, ackValid := true, waitingForAck := false }
  | .asmDrop _ => rxqTake s
  | .asmFill b => fidxWrite (s.fidx + 1) (frWrite s.fidx b (rxqTake s))
  | .asmLast b =>
    let f := s.fr.set 5 b
    let v := classify s.params s.ownAddr f
    { s with
      rxq := s.rxq.tail
      fr := f
      fidx := 0
      suspended := verdictSuspended s.suspended v
      evt := s.evt ++ [⟨verdictTelegram f v, s.listeners⟩] }
  | .asmCancel => cancelAssembler s
  | .clsCrcerr f => emitTelegram .crcError (some f) s
  | .clsSuspend _ => { emitTelegram .suspend none s with suspended := true }
  | .clsResume _ => { emitTelegram .resume none s with suspended := false }
  | .clsOk f => emitTelegram .ok (some f) s
  | .clsNfu f => emitTelegram .notForUs (some f) s
  | .tickNop => s
  | .tickPoll f => { s with txq := s.txq.tail, txw := s.txw ++ [⟨f, .ok⟩] }
  | .tickAcked f =>
    { s with
      txq := s.txq.tail
      waitingForAck := false
      evt := s.evt ++ [⟨.telegram .ack (some f), s.listeners⟩] }
  | .tickRetry f =>
    { s with
      txq := ⟨.command, f, s.headRetries - 1⟩ :: s.txq.tail
      waitingForAck := true
      txw := s.txw ++ [⟨f, .ok⟩] }
  | .tickExhaust f =>
    { s with txq := s.txq.tail, evt := s.evt ++ [⟨.error (.ackNotReceived f), s.listeners⟩] }
  | .tickTxfail k f =>
    { s with
      txq := []
      waitingForAck := s.waitingForAck || k == .command
      txw := s.txw ++ [⟨f, .fail⟩]
      evt := s.evt ++ [⟨.error (.txWriteFailed f), s.listeners⟩] }
  | .sendP f => sendItem .poll f s
  | .sendC f => sendItem .command f s
  | .connect panelId o =>
    if s.connected then giveBack (.connect .ok) s
    else
      match o with
      | .fail reason => giveBack (.connect (.fail reason)) s
      | .ok => giveBack (.connect .ok) (startEngine panelId s)
  | .close => if s.connected then cancelAssembler { s with connected := false } else s
  | .isconn => giveBack (.isconn s.connected) s
  | .ladd l => { s with listeners := insertListener l s.listeners }
  | .lrem l => { s with listeners := eraseListener l s.listeners }
  | .reset =>
    { freeFr (freeOwnAddr (freeAckByte (fidxWrite 0 (txqClear (rxqClear s))))) with
      connected := false
      waitingForAck := false
      suspended := false
      ackValid := false
      listeners := [] }

/-- A selected tick on an item finds that item at the head of TXQ. -/
theorem txHead_of_enables {i : Instr} {s : State} {k : Kind} {f : Frame} (h : s.enables i = true)
    (hi : s.holdsOperand i = s.txHeadIs k f) : ∃ r q, s.txq = ⟨k, f, r⟩ :: q := by
  have : s.holdsOperand i = true := by
    simp only [State.enables, Bool.and_eq_true] at h
    exact h.2
  exact txHeadIs_iff.1 (hi ▸ this)

theorem effectOf_tickPoll {s : State} {f : Frame} (h : s.enables (.tickPoll f) = true) :
    (txqPop s fun it s1 => txWrite it.bytes .ok s1) = effectOf (.tickPoll f) s := by
  obtain ⟨r, q, hq⟩ := txHead_of_enables h rfl
  rw [txqPop_cons hq]; simp [effectOf, hq, txWrite]

theorem effectOf_tickAcked {s : State} {f : Frame} (h : s.enables (.tickAcked f) = true) :
    (txqPop s fun it s1 => emitTelegram .ack (some it.bytes) { s1 with waitingForAck := false }) =
      effectOf (.tickAcked f) s := by
  obtain ⟨r, q, hq⟩ := txHead_of_enables h rfl
  rw [txqPop_cons hq]; simp [effectOf, hq, emitTelegram, post]

theorem effectOf_tickRetry {s : State} {f : Frame} (h : s.enables (.tickRetry f) = true) :
    (txqPop s fun it s1 =>
      txqPushFront { it with retries := it.retries - 1 } (txWrite it.bytes .ok { s1 with waitingForAck := true })) =
      effectOf (.tickRetry f) s := by
  obtain ⟨r, q, hq⟩ := txHead_of_enables h rfl
  rw [txqPop_cons hq]; simp [effectOf, hq, txWrite, txqPushFront, State.headRetries]

theorem effectOf_tickExhaust {s : State} {f : Frame} (h : s.enables (.tickExhaust f) = true) :
    (txqPop s fun it s1 => raiseErr (.ackNotReceived it.bytes) s1) = effectOf (.tickExhaust f) s := by
  obtain ⟨r, q, hq⟩ := txHead_of_enables h rfl
  rw [txqPop_cons hq]; simp [effectOf, hq, raiseErr, post]

theorem effectOf_tickTxfail {s : State} {k : Kind} {f : Frame} (h : s.enables (.tickTxfail k f) = true) :
    (txqPop s fun it s1 =>
      raiseErr (.txWriteFailed it.bytes) (txqClear (txWrite it.bytes .fail
        (if it.kind = .command then { s1 with waitingForAck := true } else s1)))) =
      effectOf (.tickTxfail k f) s := by
  obtain ⟨r, q, hq⟩ := txHead_of_enables h rfl
  rw [txqPop_cons hq]
  cases k <;> simp [effectOf, raiseErr, post, txqClear, txWrite]

/-- What `exec` can do: an operation runs where it is selected, with its effect, and only there. -/
theorem exec_eq_next {i : Instr} {s t : State} : exec i s = .next t ↔ s.enables i = true ∧ t = effectOf i s := by
  have always : ∀ j : Instr, s.enables j = true → ∀ e : State,
      (Host.Outcome.next e : Result) = .next t ↔ s.enables j = true ∧ t = e := fun j hj e =>
    ⟨fun h => ⟨hj, (Host.Outcome.next.inj h).symm⟩, fun h => by rw [h.2]⟩
  cases i with
  | rxpush b => exact whenEnabled_eq_next
  | rxpushOvf b => exact whenEnabled_eq_next
  | rxerr k => exact always (.rxerr k) rfl _
  | rxioerr => exact always .rxioerr rfl _
  | asmSync => exact whenEnabled_eq_next
  | asmAck b => exact whenEnabled_eq_next
  | asmDrop b => exact whenEnabled_eq_next
  | asmFill b => exact whenEnabled_eq_next
  | asmLast b =>
    rw [exec, execAsmLast, runClassifier_eq]
    exact whenEnabled_eq_next
  | asmCancel => exact always .asmCancel rfl _
  | clsCrcerr f => exact whenEnabled_eq_next
  | clsSuspend f => exact whenEnabled_eq_next
  | clsResume f => exact whenEnabled_eq_next
  | clsOk f => exact whenEnabled_eq_next
  | clsNfu f => exact whenEnabled_eq_next
  | tickNop => exact whenEnabled_eq_next
  | tickPoll f =>
    rw [exec, execTickPoll, whenEnabled_eq_next]
    exact and_congr_right fun h => by rw [effectOf_tickPoll h]
  | tickAcked f =>
    rw [exec, execTickAcked, whenEnabled_eq_next]
    exact and_congr_right fun h => by rw [effectOf_tickAcked h]
  | tickRetry f =>
    rw [exec, execTickRetry, whenEnabled_eq_next]
    exact and_congr_right fun h => by rw [effectOf_tickRetry h]
  | tickExhaust f =>
    rw [exec, execTickExhaust, whenEnabled_eq_next]
    exact and_congr_right fun h => by rw [effectOf_tickExhaust h]
  | tickTxfail k f =>
    rw [exec, execTickTxfail, whenEnabled_eq_next]
    exact and_congr_right fun h => by rw [effectOf_tickTxfail h]
  | sendP f => exact always (.sendP f) rfl _
  | sendC f => exact always (.sendC f) rfl _
  | connect panelId o =>
    have : exec (.connect panelId o) s = .next (effectOf (.connect panelId o) s) := by
      cases o <;> cases h : s.connected <;> simp [exec, execConnect, effectOf, h]
    rw [this]; exact always (.connect panelId o) rfl _
  | close =>
    have : exec .close s = .next (effectOf .close s) := by
      cases h : s.connected <;> simp [exec, execClose, execAsmCancel, effectOf, h]
    rw [this]; exact always .close rfl _
  | isconn => exact always .isconn rfl _
  | ladd l => exact always (.ladd l) rfl _
  | lrem l => exact always (.lrem l) rfl _
  | reset => exact always .reset rfl _

/-- What taking a stimulus can do: wait, or run one selected operation. -/
theorem takeStimulus_next {e : Stimulus} {s t : State} (h : takeStimulus e s = .next t) :
    t = s ∨ ∃ i, exec i s = .next t := by
  unfold takeStimulus at h
  split at h
  · exact .inl (Host.Outcome.next.inj h).symm
  · split at h
    · exact .inr ⟨_, h⟩
    · cases h

/-- The assembler's step on a byte (R80, R110). -/
theorem takeStimulus_asm {s : State} {b : Byte} {rest : List Byte} (hc : s.connected = true) (hq : s.rxq = b :: rest) :
    takeStimulus .asm s =
      match decodeByte s.view b with
      | .op i => exec i s
      | .rejected _ => .refused .undecodable := by
  have : s.asmEnabled = true := by simp [State.asmEnabled, hc, hq]
  have hd : decode .asm s.view [b] = decodeByte s.view b := rfl
  cases h : decodeByte s.view b <;> simp [takeStimulus, fetch, this, hq, hd, h]

/-- A tick with nothing to do (R82, R154). -/
theorem takeStimulus_tick_idle {s : State} {w : Draw} (h : s.view.tickIdle = true) :
    takeStimulus (.tick w) s = exec .tickNop s := by
  simp [takeStimulus, fetch, decode, h]

/-- A tick on the head item (R82, R153). -/
theorem takeStimulus_tick {s : State} {w : Draw} {it : Item} {q : List Item} (h : s.view.tickIdle = false)
    (hq : s.txq = it :: q) : takeStimulus (.tick w) s = exec (decodeItem w s.view it.kind it.bytes) s := by
  simp [takeStimulus, fetch, decode, h, tickUnit, hq, unitItem_itemBytes]

/-- A step with a script takes its head (log 1). -/
theorem step_of_script {s : State} {e : Stimulus} {es : List Stimulus} (h : s.script = e :: es) :
    step s = takeStimulus e { s with script := es } := by
  simp [step, nextStimulus, h, dropStimulus]

/-- What a step can do: take the stimulus and nothing else, or run one selected operation after it. -/
theorem step_next {s t : State} (h : step s = .next t) :
    t = dropStimulus s ∨ ∃ i, exec i (dropStimulus s) = .next t := takeStimulus_next h

/-- A run goes one step and then the rest. -/
theorem run_succ (k : Nat) (s t : State) (h : step s = .next t) : run (k + 1) s = run k t := by
  have hc : Sys2Proof.core.step s = .next t := h
  simp only [run, Host.Core.run, hc]
  rfl

theorem run_zero (s : State) : run 0 s = .next s := rfl

end Sys2Proof.Machine
end

