-- ==== Sys2Proof/Laws/PerInstr.lean ====
section
/-! SUPPORT. Statements made of every operation as syntax, one lemma per constructor. -/

namespace Sys2Proof.Laws

/-- The unit an operation is encoded in has the length its row gives it, in whole bytes (`unit_bits` of
spec/opcode_table.json). -/
def UnitLength.Statement (i : Instr) : Prop := (encode i).length = unitBytes i

theorem UnitLength.rxpush (b : Byte) : UnitLength.Statement (.rxpush b) := rfl

theorem UnitLength.rxpushOvf (b : Byte) : UnitLength.Statement (.rxpushOvf b) := rfl

theorem UnitLength.rxerr (k : Byte) : UnitLength.Statement (.rxerr k) := rfl

theorem UnitLength.rxioerr : UnitLength.Statement .rxioerr := rfl

theorem UnitLength.asmSync : UnitLength.Statement .asmSync := rfl

theorem UnitLength.asmAck (b : Byte) : UnitLength.Statement (.asmAck b) := rfl

theorem UnitLength.asmDrop (b : Byte) : UnitLength.Statement (.asmDrop b) := rfl

theorem UnitLength.asmFill (b : Byte) : UnitLength.Statement (.asmFill b) := rfl

theorem UnitLength.asmLast (b : Byte) : UnitLength.Statement (.asmLast b) := rfl

theorem UnitLength.asmCancel : UnitLength.Statement .asmCancel := rfl

theorem UnitLength.clsCrcerr (f : Frame) : UnitLength.Statement (.clsCrcerr f) := rfl

theorem UnitLength.clsSuspend (f : Frame) : UnitLength.Statement (.clsSuspend f) := rfl

theorem UnitLength.clsResume (f : Frame) : UnitLength.Statement (.clsResume f) := rfl

theorem UnitLength.clsOk (f : Frame) : UnitLength.Statement (.clsOk f) := rfl

theorem UnitLength.clsNfu (f : Frame) : UnitLength.Statement (.clsNfu f) := rfl

theorem UnitLength.tickNop : UnitLength.Statement .tickNop := rfl

theorem UnitLength.tickPoll (f : Frame) : UnitLength.Statement (.tickPoll f) := rfl

theorem UnitLength.tickAcked (f : Frame) : UnitLength.Statement (.tickAcked f) := rfl

theorem UnitLength.tickRetry (f : Frame) : UnitLength.Statement (.tickRetry f) := rfl

theorem UnitLength.tickExhaust (f : Frame) : UnitLength.Statement (.tickExhaust f) := rfl

theorem UnitLength.tickTxfail (k : Kind) (f : Frame) : UnitLength.Statement (.tickTxfail k f) := rfl

theorem UnitLength.sendP (f : Frame) : UnitLength.Statement (.sendP f) := rfl

theorem UnitLength.sendC (f : Frame) : UnitLength.Statement (.sendC f) := rfl

theorem UnitLength.connect (panelId : Byte) (o : OpenResult) : UnitLength.Statement (.connect panelId o) := rfl

theorem UnitLength.close : UnitLength.Statement .close := rfl

theorem UnitLength.isconn : UnitLength.Statement .isconn := rfl

theorem UnitLength.ladd (l : Listener) : UnitLength.Statement (.ladd l) := rfl

theorem UnitLength.lrem (l : Listener) : UnitLength.Statement (.lrem l) := rfl

theorem UnitLength.reset : UnitLength.Statement .reset := rfl

end Sys2Proof.Laws
end

