-- ==== Sys2Proof/Tests/Slice0.lean ====
section
/-! SUPPORT. Tests. Expected results are the spec's own vectors (95_test_vectors.md: tables V-I, V-A, V-C, V-T, V-H,
V-R, cited by row) or words written out from its formats (30_encoding.md). Then one witness for every statement that
has hypotheses. -/

open Sys2Proof Sys2Proof.Machine

namespace Sys2Proof.Tests

/-- The reference parameter values of 00_scope.md section 5. -/
def refParams : Params := ⟨0x20, 0x21, 0x91, 0x8F, 1024, none, 3⟩

/-- A connected engine in hunt state, `ownAddr` = 0x22. -/
def live : State := { State.reset with connected := true, ownAddr := 0x22, params := refParams }

/-- The same with `RXQ_CAP` = 4, as the overflow vectors have it. -/
def small : State := { live with params := { refParams with rxqCap := 4 } }

/-- The state after, where there is one. -/
def after (r : Result) : Option State :=
  match r with
  | .next t => some t
  | .fault _ => none
  | .refused _ => none

/-- Command K, command K' and poll Q of table V-T. -/
def cmdK : Frame := ⟨0x01, 0x22, 0x11, 0x29, 0x03, 0x60⟩
def cmdK' : Frame := ⟨0x01, 0x22, 0x11, 0x29, 0x04, 0x61⟩
def pollQ : Frame := ⟨0x01, 0x22, 0x11, 0x00, 0x2B, 0x5F⟩

/-- V-C rows 1, 4, 10, 11, 17. -/
def okF : Frame := ⟨0x01, 0x11, 0x22, 0x35, 0x10, 0x79⟩
def nfuF : Frame := ⟨0x01, 0x21, 0x11, 0xA3, 0x00, 0xD6⟩
def suspF : Frame := ⟨0x01, 0x11, 0x20, 0x00, 0x91, 0xC3⟩
def resF : Frame := ⟨0x01, 0x11, 0x20, 0x00, 0x8F, 0xC1⟩
def badF : Frame := ⟨0x01, 0x11, 0x22, 0x35, 0x10, 0x7A⟩

/-! ## WellFormed refuses ill-formed terms -/

theorem test_wf_ack_sync : (Instr.asmAck 0x01).wf = false := by decide
theorem test_wf_drop_sync : (Instr.asmDrop 0x01).wf = false := by decide
theorem test_wf_crcerr_of_valid : (Instr.clsCrcerr okF).wf = false := by decide
theorem test_wf_crcerr_no_sync : (Instr.clsCrcerr { badF with sync := 0x02 }).wf = false := by decide
theorem test_wf_suspend_of_invalid : (Instr.clsSuspend { suspF with cks := 0xC4 }).wf = false := by decide
theorem test_wf_resume_of_invalid : (Instr.clsResume { resF with cks := 0xC0 }).wf = false := by decide
theorem test_wf_ok_no_sync : (Instr.clsOk { okF with sync := 0x02, cks := 0x7A }).wf = false := by decide
theorem test_wf_nfu_of_invalid : (Instr.clsNfu { nfuF with cks := 0 }).wf = false := by decide
theorem test_wf_admits : (Instr.asmAck 0x60).wf = true ∧ (Instr.clsOk okF).wf = true ∧ (Instr.clsCrcerr badF).wf = true := by
  decide

/-! ## Decoding: words written out from the formats (R70 to R73, R80 to R83) -/

theorem test_decode_asm :
    decode .asm live.view [0b00000001#8] = .op .asmSync ∧
    decode .asm { live.view with waitingForAck := true } [0b10000101#8] = .op (.asmAck 0x85) ∧
    decode .asm live.view [0b01010101#8] = .op (.asmDrop 0x55) ∧
    decode .asm { live.view with fidx := 1 } [0b00000001#8] = .op (.asmFill 0x01) ∧
    decode .asm { live.view with fidx := 5 } [0b01111001#8] = .op (.asmLast 0x79) ∧
    decode .cancel live.view [] = .op .asmCancel := by decide

theorem test_decode_cls :
    decode .cls live.view [0x01, 0x11, 0x22, 0x35, 0x10, 0x79] = .op (.clsOk okF) ∧
    decode .cls live.view [0x01, 0x21, 0x11, 0xA3, 0x00, 0xD6] = .op (.clsNfu nfuF) ∧
    decode .cls live.view [0x01, 0x11, 0x20, 0x00, 0x91, 0xC3] = .op (.clsSuspend suspF) ∧
    decode .cls live.view [0x01, 0x11, 0x20, 0x00, 0x8F, 0xC1] = .op (.clsResume resF) ∧
    decode .cls live.view [0x01, 0x11, 0x22, 0x35, 0x10, 0x7A] = .op (.clsCrcerr badF) ∧
    decode .cls live.view [0x02, 0x11, 0x22, 0x35, 0x10, 0x7A] = .rejected .noSync := by decide

theorem test_decode_tick :
    let v := { live.view with txEmpty := false, headRetries := 3 }
    let c : List Byte := [0x01, 0x01, 0x22, 0x11, 0x29, 0x03, 0x60]
    let p : List Byte := [0x00, 0x01, 0x22, 0x11, 0x00, 0x2B, 0x5F]
    decode (.tick .ok) live.view [] = .op .tickNop ∧
    decode (.tick .ok) v p = .op (.tickPoll pollQ) ∧
    decode (.tick .fail) v p = .op (.tickTxfail .poll pollQ) ∧
    decode (.tick .fail) { v with ackValid := true, ackByte := 0x60 } c = .op (.tickAcked cmdK) ∧
    decode (.tick .ok) v c = .op (.tickRetry cmdK) ∧
    decode (.tick .fail) v c = .op (.tickTxfail .command cmdK) ∧
    decode (.tick .ok) { v with headRetries := 0, ackValid := true, ackByte := 0x60 } c = .op (.tickExhaust cmdK) := by
  decide

theorem test_decode_send :
    decode .send live.view [0x00, 0x01, 0x22, 0x11, 0x00, 0x2B, 0x5F] = .op (.sendP pollQ) ∧
    decode .send live.view [0x01, 0x01, 0x22, 0x11, 0x29, 0x03, 0x60] = .op (.sendC cmdK) ∧
    decode .send live.view [0x02, 0x01, 0x22, 0x11, 0x29, 0x03, 0x60] = .rejected .badKind ∧
    decode .send live.view [0x01, 0x01] = .rejected .wrongLength := by decide

theorem test_decode_intake :
    decode .rx live.view [0xAA] = .op (.rxpush 0xAA) ∧
    decode .rx { live.view with rxFull := true } [0xAA] = .op (.rxpushOvf 0xAA) ∧
    decode .rx { live.view with rxFull := true, connected := false } [0xAA] = .op (.rxpush 0xAA) ∧
    decode .rxErr live.view [0x07] = .op (.rxerr 0x07) ∧
    decode .rxIo live.view [] = .op .rxioerr := by decide

theorem test_decode_host :
    decode (.connect .ok) live.view [0x22] = .op (.connect 0x22 .ok) ∧
    decode .close live.view [] = .op .close ∧ decode .isconn live.view [] = .op .isconn ∧
    decode (.ladd 7) live.view [] = .op (.ladd 7) ∧ decode (.lrem 7) live.view [] = .op (.lrem 7) ∧
    decode .reset live.view [] = .op .reset := by decide

/-- R72: kind is bit 48, the frame bits 47..0; 0x012211290360 is K as a 48-bit number (95_test_vectors.md P2). -/
theorem test_table_words :
    decodeTableWord 8 0x01 = some .asmSync ∧
    decodeTableWord 48 0x010000102032 = some (.clsCrcerr ⟨0x01, 0x00, 0x00, 0x10, 0x20, 0x32⟩) ∧
    decodeTableWord 49 0x1012211290360 = some (.sendC cmdK) ∧
    decodeTableWord 56 0x012211002B5F = some (.sendP pollQ) ∧
    decodeTableWord 8 0x100 = none ∧ cmdK.pack = 0x012211290360 := by decide

theorem test_placed_word_runs :
    (after (step (State.reset.withFetchWord 8 0x01))).map (fun t => (t.fidx, t.fr.sync, t.script)) =
      some (1, 0x01, []) := by decide

/-! ## The checksum and the verdicts: V-C, `ownAddr` = 0x22 -/

theorem test_verdicts_valid :
    [⟨0x01, 0x11, 0x22, 0x35, 0x10, 0x79⟩, ⟨0x01, 0x11, 0x20, 0x35, 0x10, 0x77⟩, ⟨0x01, 0x11, 0x21, 0x2A, 0x07, 0x64⟩,
     ⟨0x01, 0x21, 0x11, 0xA3, 0x00, 0xD6⟩, ⟨0x01, 0x11, 0x23, 0x35, 0x10, 0x7A⟩, ⟨0x01, 0x22, 0x22, 0x35, 0x10, 0x8A⟩,
     ⟨0x01, 0x11, 0x22, 0xFF, 0xFF, 0x32⟩, ⟨0x01, 0x11, 0x22, 0x00, 0x91, 0xC5⟩, ⟨0x01, 0x21, 0x11, 0x00, 0x91, 0xC4⟩,
     ⟨0x01, 0x11, 0x20, 0x00, 0x8F, 0xC1⟩, ⟨0x01, 0x11, 0x20, 0x91, 0x00, 0xC3⟩, ⟨0x01, 0xFF, 0xFF, 0xFF, 0xFF, 0xFD⟩,
     ⟨0x01, 0x80, 0x7F, 0x00, 0x00, 0x00⟩].map (classify refParams 0x22) =
    [.ok, .ok, .ok, .notForUs, .notForUs, .ok, .ok, .suspend, .suspend, .resume, .ok, .notForUs, .notForUs] := by
  decide

theorem test_verdicts_corrupt :
    [⟨0x01, 0x11, 0x22, 0x35, 0x10, 0x7A⟩, ⟨0x01, 0x11, 0x22, 0x35, 0x10, 0x78⟩, ⟨0x01, 0x11, 0x22, 0x35, 0x11, 0x79⟩,
     ⟨0x01, 0x11, 0x23, 0x35, 0x10, 0x79⟩, ⟨0x01, 0x11, 0x20, 0x00, 0x91, 0xC4⟩, ⟨0x01, 0x11, 0x20, 0x00, 0x8F, 0xC0⟩,
     ⟨0x01, 0xFF, 0xFF, 0xFF, 0xFF, 0xFC⟩].map (classify refParams 0x22) =
    [.crcError, .crcError, .crcError, .crcError, .crcError, .crcError, .crcError] := by decide

/-- "With other parameters", after table V-C. -/
theorem test_verdicts_other_parameters :
    classify { refParams with resumeByte := 0x91 } 0x22 suspF = .suspend ∧
    classify { refParams with suspendByte := 0x8F } 0x22 resF = .suspend ∧
    classify refParams 0x23 okF = .notForUs ∧
    classify { refParams with addrPanel1 := 0x22 } 0x23 okF = .ok ∧
    classify { refParams with suspendByte := 0x10 } 0x22 okF = .suspend := by decide

/-! ## Intake: V-I -/

/-- V-I row 2. -/
theorem test_rxpush :
    (after (exec (.rxpush 0x35) { small with rxq := [0x01, 0x11, 0x22] })).map State.rxq =
      some [0x01, 0x11, 0x22, 0x35] := by decide
/-- V-I row 8. -/
theorem test_rxpush_ignored :
    (after (exec (.rxpush 0x01) { small with connected := false })).map State.rxq = some [] := by decide
/-- V-I row 5. -/
theorem test_rxpushOvf :
    (after (exec (.rxpushOvf 0x10) { small with rxq := [0x01, 0x11, 0x22, 0x35], fidx := 2 })).map
      (fun t => (t.rxq, t.fidx, t.events)) = some ([], 2, [.error .rxqOverflow]) := by decide
/-- V-I row 9. -/
theorem test_rxerr : (after (exec (.rxerr 0x02) live)).map State.events = some [.error (.lineError 0x02)] := by decide
/-- V-I rows 11, 12. -/
theorem test_rxioerr :
    (after (exec .rxioerr { live with fidx := 3 })).map (fun t => (t.connected, t.fidx, t.events)) =
      some (true, 3, [.error .rxIo]) := by decide
theorem test_rxioerr_ignored :
    (after (exec .rxioerr { live with connected := false })).map State.events = some [] := by decide

/-! ## Assembler: V-A -/

/-- V-A row 2: the sync test comes first. -/
theorem test_asmSync_while_waiting :
    (after (step { live with waitingForAck := true, rxq := [0x01] })).map
      (fun t => (t.fidx, t.waitingForAck, t.ackValid)) = some (1, true, false) := by decide
/-- V-A row 4. -/
theorem test_asmAck :
    (after (step { live with waitingForAck := true, ackValid := true, ackByte := 0x60, rxq := [0x00] })).map
      (fun t => (t.ackByte, t.ackValid, t.waitingForAck, t.fidx)) = some (0x00, true, false, 0) := by decide
/-- V-A row 5. -/
theorem test_asmDrop :
    (after (step { live with ackValid := true, ackByte := 0x60, rxq := [0x85] })).map
      (fun t => (t.ackByte, t.rxq)) = some (0x60, []) := by decide
/-- V-A row 7. -/
theorem test_asmFill_sync_is_data :
    (after (step { live with fidx := 1, rxq := [0x01] })).map (fun t => (t.fr.src, t.fidx)) = some (0x01, 2) := by
  decide
/-- V-A row 8. -/
theorem test_asmFill_ack_is_data :
    (after (step { live with fidx := 3, waitingForAck := true, rxq := [0x60] })).map
      (fun t => (t.fr.var, t.fidx, t.waitingForAck, t.ackValid)) = some (0x60, 4, true, false) := by decide
/-- V-A row 10. -/
theorem test_asmLast_ok :
    (after (step { live with fidx := 5, fr := { okF with cks := 0xD6 }, rxq := [0x79] })).map
      (fun t => (t.fidx, t.fr, t.events)) = some (0, okF, [.telegram .ok (some okF)]) := by decide
/-- V-A row 11. -/
theorem test_asmLast_sync :
    (after (step { live with fidx := 5, fr := okF, rxq := [0x01] })).map (fun t => (t.fidx, t.events)) =
      some (0, [.telegram .crcError (some { okF with cks := 0x01 })]) := by decide
/-- V-A rows 12, 13. -/
theorem test_asm_waits :
    after (step live) = some live ∧
    after (step { live with connected := false, rxq := [0x01] }) =
      some { live with connected := false, rxq := [0x01] } := by decide

/-! ## Classifier: V-C, as operations -/

/-- V-C row 21: a corrupted suspend frame does not suspend. -/
theorem test_clsCrcerr :
    (after (exec (.clsCrcerr { suspF with cks := 0xC4 }) { live with fr := { suspF with cks := 0xC4 } })).map
      (fun t => (t.suspended, t.events)) =
      some (false, [.telegram .crcError (some { suspF with cks := 0xC4 })]) := by decide
/-- V-C row 10. -/
theorem test_clsSuspend :
    (after (exec (.clsSuspend suspF) { live with fr := suspF })).map (fun t => (t.suspended, t.events)) =
      some (true, [.telegram .suspend none]) := by decide
/-- V-C row 11. -/
theorem test_clsResume :
    (after (exec (.clsResume resF) { live with fr := resF, suspended := true })).map
      (fun t => (t.suspended, t.events)) = some (false, [.telegram .resume none]) := by decide
/-- V-C row 1. -/
theorem test_clsOk :
    (after (exec (.clsOk okF) { live with fr := okF })).map State.events = some [.telegram .ok (some okF)] := by decide
/-- V-C row 4. -/
theorem test_clsNfu :
    (after (exec (.clsNfu nfuF) { live with fr := nfuF })).map State.events =
      some [.telegram .notForUs (some nfuF)] := by decide

/-! ## Scheduler and SEND: V-T -/

/-- V-T row 7. -/
theorem test_tickNop_suspended :
    after (exec .tickNop { live with suspended := true, txq := [⟨.command, cmdK, 0⟩] }) =
      some { live with suspended := true, txq := [⟨.command, cmdK, 0⟩] } := by decide
/-- V-T row 9. -/
theorem test_tickPoll :
    (after (exec (.tickPoll pollQ) { live with txq := [⟨.poll, pollQ, 3⟩, ⟨.command, cmdK, 3⟩] })).map
      (fun t => (t.txq, t.waitingForAck, t.txw)) = some ([⟨.command, cmdK, 3⟩], false, [⟨pollQ, .ok⟩]) := by decide
/-- V-T row 13. -/
theorem test_tickAcked :
    (after (exec (.tickAcked cmdK)
      { live with ackValid := true, ackByte := 0x60, txq := [⟨.command, cmdK, 2⟩, ⟨.poll, pollQ, 3⟩] })).map
      (fun t => ((t.txq, t.events, t.txw), t.waitingForAck, t.ackByte, t.ackValid)) =
      some (([⟨.poll, pollQ, 3⟩], [.telegram .ack (some cmdK)], []), false, 0x60, true) := by decide
/-- V-T row 10. -/
theorem test_tickRetry :
    (after (exec (.tickRetry cmdK) { live with txq := [⟨.command, cmdK, 3⟩, ⟨.poll, pollQ, 3⟩] })).map
      (fun t => (t.txq, t.waitingForAck, t.txw)) =
      some ([⟨.command, cmdK, 2⟩, ⟨.poll, pollQ, 3⟩], true, [⟨cmdK, .ok⟩]) := by decide
/-- V-T row 21: only the head is compared. -/
theorem test_tickRetry_head_only :
    (after (step { live with
        ackValid := true, ackByte := 0x61, script := [.tick .ok]
        txq := [⟨.command, cmdK, 1⟩, ⟨.command, cmdK', 3⟩] })).map (fun t => (t.txq, t.waitingForAck)) =
      some ([⟨.command, cmdK, 0⟩, ⟨.command, cmdK', 3⟩], true) := by decide
/-- V-T row 17: retries are tested before the ack byte. -/
theorem test_tickExhaust :
    (after (step { live with
        ackValid := true, ackByte := 0x60, script := [.tick .ok], txq := [⟨.command, cmdK, 0⟩] })).map
      (fun t => (t.txq, t.waitingForAck, t.events, t.txw)) =
      some ([], false, [.error (.ackNotReceived cmdK)], []) := by decide
/-- V-T row 19. -/
theorem test_tickTxfail_poll :
    (after (exec (.tickTxfail .poll pollQ) { live with txq := [⟨.poll, pollQ, 3⟩, ⟨.command, cmdK, 3⟩] })).map
      (fun t => (t.txq, t.waitingForAck, t.connected, t.events, t.txw)) =
      some ([], false, true, [.error (.txWriteFailed pollQ)], [⟨pollQ, .fail⟩]) := by decide
/-- V-T row 20. -/
theorem test_tickTxfail_command :
    (after (exec (.tickTxfail .command cmdK) { live with txq := [⟨.command, cmdK, 3⟩, ⟨.poll, pollQ, 3⟩] })).map
      (fun t => (t.txq, t.waitingForAck, t.connected)) = some ([], true, true) := by decide
/-- V-T row 4. -/
theorem test_sendP_suspended :
    (after (exec (.sendP pollQ) { live with suspended := true })).map State.txq = some [⟨.poll, pollQ, 3⟩] := by decide
/-- V-T row 5. -/
theorem test_sendC_full :
    (after (exec (.sendC cmdK)
      { live with params := { refParams with txqCap := some 1 }, txq := [⟨.poll, pollQ, 3⟩] })).map
      (fun t => (t.txq, t.events)) = some ([⟨.poll, pollQ, 3⟩], [.error (.txqFull cmdK)]) := by decide

/-! ## Host and reset: V-H, V-R -/

/-- V-H row 3: the open draw is not consulted. -/
theorem test_connect_connected :
    (after (exec (.connect 0x23 (.fail .portInUse)) { live with suspended := true, txq := [⟨.poll, pollQ, 3⟩] })).map
      (fun t => (t.ownAddr, t.suspended, t.txq, t.ret)) =
      some (0x22, true, [⟨.poll, pollQ, 3⟩], [.connect .ok]) := by decide
/-- V-H row 4. -/
theorem test_connect_starts :
    (after (exec (.connect 0x23 .ok)
      { live with
        connected := false, suspended := true, ackValid := true, waitingForAck := true, rxq := [0x01]
        txq := [⟨.command, cmdK, 2⟩] })).map
      (fun t => (t.mode, t.ackValid || t.waitingForAck, t.ownAddr, t.fidx.val + t.rxq.length + t.txq.length)) =
      some (.running, false, 0x23, 0) := by decide
/-- V-H row 5. -/
theorem test_close :
    (after (exec .close { live with fidx := 2, txq := [⟨.poll, pollQ, 3⟩, ⟨.command, cmdK, 3⟩] })).map
      (fun t => (t.connected, t.fidx, t.txq.length, t.events)) = some (false, 0, 2, [.error .cancelled]) := by decide
/-- V-H row 6. -/
theorem test_close_closed :
    (after (exec .close { live with connected := false })).map State.events = some [] := by decide
/-- V-A row 14, R116. -/
theorem test_asmCancel :
    (after (exec .asmCancel { live with fidx := 3 })).map (fun t => (t.fidx, t.events)) =
      some (0, [.error .cancelled]) := by decide
/-- V-H rows 7, 9. -/
theorem test_isconn :
    (after (exec .isconn live)).map State.ret = some [.isconn true] ∧
    (after (exec .isconn { live with connected := false })).map State.ret = some [.isconn false] := by decide
/-- V-H rows 10, 11, with a = 4 and b = 2. -/
theorem test_ladd :
    (after (exec (.ladd 4) { live with listeners := [4] })).map State.listeners = some [4] ∧
    (after (exec (.ladd 2) { live with listeners := [4] })).map State.listeners = some [2, 4] := by decide
/-- V-H row 12. -/
theorem test_lrem :
    (after (exec (.lrem 2) { live with listeners := [2, 4] })).map State.listeners = some [4] ∧
    (after (exec (.lrem 2) { live with listeners := [4] })).map State.listeners = some [4] := by decide
/-- V-H row 13: the event of CLOSE is delivered to a. -/
theorem test_event_delivered :
    (after (exec .close { live with listeners := [4] })).map (fun t => t.receivedBy 4) =
      some [.error .cancelled] := by decide
/-- V-R row 2. -/
theorem test_reset :
    (after (exec .reset
      { live with fidx := 4, suspended := true, txq := [⟨.command, cmdK, 1⟩], listeners := [4] })).map
      (fun t => (t.connected || t.suspended, t.fidx.val + t.txq.length, t.listeners, t.events)) =
      some (false, 0, [], []) := by decide

/-! ## Formats (R76, R77, R78, R86) -/

theorem test_codes :
    [Tag.ok, .crcError, .suspend, .resume, .notForUs, .ack, .poll, .command].map Tag.code = [0, 1, 2, 3, 4, 5, 6, 7] ∧
    [Err.rxqOverflow, .ackNotReceived cmdK, .txWriteFailed cmdK, .lineError 0, .rxIo, .cancelled,
      .txqFull cmdK].map Err.code = [1, 2, 3, 4, 5, 6, 7] ∧
    [Reason.portUnavailable, .portInUse, .unsupportedConfig, .ioFailure].map reasonCode = [1, 2, 3, 4] := by decide

theorem test_records :
    Event.record (.telegram .ack (some cmdK)) = ⟨0, 5, some 0x012211290360⟩ ∧
    (Event.record (.telegram .suspend none)).hasInfo = false ∧
    Event.record (.error (.ackNotReceived cmdK)) = ⟨1, 2, some 0x012211290360⟩ ∧
    Event.record (.error .cancelled) = ⟨1, 6, none⟩ := by decide

/-- P1: `FRAME 11 21 2A 07` expands to `RX 01 11 21 2A 07 64`. -/
theorem test_script_frame :
    scriptFrame 0x11 0x21 0x2A 0x07 = [.rxb 0x01, .rxb 0x11, .rxb 0x21, .rxb 0x2A, .rxb 0x07, .rxb 0x64] := by decide

/-! ## Witnesses: for every statement with hypotheses, a state and operands that meet those of each clause -/

/-- One place left; disconnected. -/
theorem witness_RxpushQueuesOrIgnores :
    ({ small with rxq := [1, 2, 3] } : State).connected = true ∧
    ({ small with rxq := [1, 2, 3] } : State).rxq.length < small.params.rxqCap ∧
    State.reset.connected = false := by decide

/-- Capacity 1. -/
theorem witness_OverflowClearsQueueOnce :
    let s : State := { live with params := { refParams with rxqCap := 1 }, rxq := [0xAA] }
    s.connected = true ∧ s.rxq.length = s.params.rxqCap := by decide

/-- Five bytes on capacity 4 (V-I row 4). -/
theorem witness_CapacityPlusOneBytesOverflowOnce :
    let bs : List Byte := [0x01, 0x11, 0x22, 0x35, 0x10]
    let s : State := { small with script := scriptRx bs ++ [.asm] }
    s.connected = true ∧ s.rxq = [] ∧ bs.length = s.params.rxqCap + 1 ∧ s.script = scriptRx bs ++ [.asm] := by decide

/-- LineErrorIsReportedOnly, ReadFailureIsReportedOnly, CloseCancelsOnce, the first clause of SendQueuesAtTheTail,
ConnectStartsTheEngine: both values of `connected`, which are their only hypotheses. -/
theorem witness_connected_and_not : live.connected = true ∧ State.reset.connected = false := by decide

/-- The three clauses. -/
theorem witness_HuntStateSteps :
    let s : State := { live with rxq := [Config.sync] }
    let a : State := { live with rxq := [0x02], waitingForAck := true }
    let d : State := { live with rxq := [0x00] }
    (s.connected = true ∧ s.fidx = 0 ∧ s.rxq = Config.sync :: []) ∧
    (a.connected = true ∧ a.fidx = 0 ∧ a.rxq = 0x02 :: [] ∧ (0x02 : Byte) ≠ Config.sync ∧ a.waitingForAck = true) ∧
    (d.connected = true ∧ d.fidx = 0 ∧ d.rxq = 0x00 :: [] ∧ (0x00 : Byte) ≠ Config.sync ∧ d.waitingForAck = false) := by
  decide

/-- Each position. -/
theorem witness_FillStateStoresAnyByte :
    ∀ n ∈ ([1, 2, 3, 4] : List (Fin Config.frameLen)),
      let s : State := { live with rxq := [0xFF], fidx := n }
      s.connected = true ∧ s.rxq = 0xFF :: [] ∧ s.fidx = n := by decide

theorem witness_SixthByteCompletesAndClassifies :
    let s : State := { live with rxq := [0x79], fidx := 5, fr := okF }
    s.connected = true ∧ s.fidx = 5 ∧ s.rxq = 0x79 :: [] := by decide

/-- Every verdict occurs. -/
theorem witness_ClassifierPrecedence :
    [badF, suspF, resF, okF, nfuF].map (classify refParams 0x22) = [.crcError, .suspend, .resume, .ok, .notForUs] := by
  decide

theorem witness_CorruptFrameIsReportedOnly :
    ({ live with fr := badF } : State).fr = badF ∧ badF.sum % 256 ≠ badF.cks.toNat := by decide

/-- Both markers. -/
theorem witness_ControlFramesSetAndClearSuspended :
    suspF.sum % 256 = suspF.cks.toNat ∧ suspF.val = live.params.suspendByte ∧
    resF.sum % 256 = resF.cks.toNat ∧ resF.val ≠ live.params.suspendByte ∧ resF.val = live.params.resumeByte := by
  decide

/-- Each accepted address, and one that is none. -/
theorem witness_DataFramesAreTaggedByAddress :
    let b : Frame := ⟨0x01, 0x11, 0x20, 0x35, 0x10, 0x77⟩
    let p : Frame := ⟨0x01, 0x11, 0x21, 0x2A, 0x07, 0x64⟩
    (∀ f ∈ [okF, b, p, nfuF], f.sum % 256 = f.cks.toNat ∧ f.val ≠ live.params.suspendByte ∧
      f.val ≠ live.params.resumeByte) ∧
    okF.dst = live.ownAddr ∧ b.dst = live.params.addrBroadcast ∧ p.dst = live.params.addrPanel1 ∧
    nfuF.dst ≠ live.ownAddr ∧ nfuF.dst ≠ live.params.addrBroadcast ∧ nfuF.dst ≠ live.params.addrPanel1 := by decide

/-- A valid frame and a changed byte, at the first and the last index. -/
theorem witness_ChecksumLaws :
    okF.valid = true ∧ (0x00 : Byte) ≠ okF.get 0 ∧ (0x7A : Byte) ≠ okF.get 5 := by decide

/-- A full queue of one, and a queue with exactly one place left. -/
theorem witness_SendQueuesAtTheTail :
    let full : State := { live with params := { refParams with txqCap := some 1 }, txq := [⟨.poll, pollQ, 3⟩] }
    let room : State := { full with params := { refParams with txqCap := some 2 } }
    full.connected = true ∧ full.params.txqCap = some full.txq.length ∧
    room.connected = true ∧ (∀ c ∈ room.params.txqCap, room.txq.length < c) ∧
    (∀ c ∈ live.params.txqCap, live.txq.length < c) := by decide

/-- Each of the three. -/
theorem witness_IdleTickChangesNothing :
    ({ live with connected := false, txq := [⟨.poll, pollQ, 3⟩] } : State).connected = false ∧
    ({ live with suspended := true, txq := [⟨.poll, pollQ, 3⟩] } : State).suspended = true ∧ live.txq = [] := by decide

theorem witness_PollIsWrittenOnceAndDone :
    let s : State := { live with txq := [⟨.poll, pollQ, 0⟩] }
    s.connected = true ∧ s.suspended = false ∧ s.txq = ⟨.poll, pollQ, 0⟩ :: [] := by decide

/-- The smallest budget. -/
theorem witness_EchoedCommandIsAcknowledged :
    let s : State := { live with txq := [⟨.command, cmdK, 1⟩], ackValid := true, ackByte := 0x60 }
    s.connected = true ∧ s.suspended = false ∧ s.txq = ⟨.command, cmdK, 1⟩ :: [] ∧ 0 < 1 ∧ s.ackValid = true ∧
    cmdK.cks = s.ackByte := by decide

/-- Nothing recorded; another byte recorded. -/
theorem witness_UnechoedCommandIsWrittenAgain :
    let s : State := { live with txq := [⟨.command, cmdK, 0 + 1⟩], ackByte := 0x60 }
    let u : State := { s with ackValid := true, ackByte := 0x61 }
    s.connected = true ∧ s.suspended = false ∧ s.txq = ⟨.command, cmdK, 0 + 1⟩ :: [] ∧ s.ackValid = false ∧
    u.txq = ⟨.command, cmdK, 0 + 1⟩ :: [] ∧ cmdK.cks ≠ u.ackByte := by decide

/-- With a matching ack byte. -/
theorem witness_ExhaustedCommandIsDropped :
    let s : State := { live with txq := [⟨.command, cmdK, 0⟩], ackValid := true, ackByte := 0x60 }
    s.connected = true ∧ s.suspended = false ∧ s.txq = ⟨.command, cmdK, 0⟩ :: [] := by decide

/-- A poll with no budget; a command with the smallest. -/
theorem witness_FailedWriteClearsTheQueue :
    let p : State := { live with txq := [⟨.poll, pollQ, 0⟩] }
    let c : State := { live with txq := [⟨.command, cmdK, 1⟩] }
    p.connected = true ∧ p.suspended = false ∧ p.txq = ⟨.poll, pollQ, 0⟩ :: [] ∧
    c.connected = true ∧ c.suspended = false ∧ c.txq = ⟨.command, cmdK, 1⟩ :: [] ∧ 0 < 1 ∧ c.ackValid = false := by
  decide

/-- RESET answers. -/
theorem witness_ResetKeepsHistoriesAndScript : ∃ t, exec .reset live = .next t := ⟨_, rfl⟩

/-- Each error: a step that raises it. -/
theorem witness_EachErrorHasItsCause :
    (∃ t, exec (.rxpushOvf 0) { small with rxq := [1, 2, 3, 4] } = .next t ∧
      t.evt = [⟨.error .rxqOverflow, []⟩]) ∧
    (∃ t, exec (.tickExhaust cmdK) { live with txq := [⟨.command, cmdK, 0⟩] } = .next t ∧
      t.evt = [⟨.error (.ackNotReceived cmdK), []⟩]) ∧
    (∃ t, exec (.tickTxfail .poll pollQ) { live with txq := [⟨.poll, pollQ, 3⟩] } = .next t ∧
      t.evt = [⟨.error (.txWriteFailed pollQ), []⟩]) ∧
    (∃ t, exec (.rxerr 9) live = .next t ∧ t.evt = [⟨.error (.lineError 9), []⟩]) ∧
    (∃ t, exec .rxioerr live = .next t ∧ t.evt = [⟨.error .rxIo, []⟩]) ∧
    (∃ t, exec .close live = .next t ∧ t.evt = [⟨.error .cancelled, []⟩]) ∧
    ∃ t, exec (.sendC cmdK)
        { live with params := { refParams with txqCap := some 1 }, txq := [⟨.poll, pollQ, 3⟩] } = .next t ∧
      t.evt = [⟨.error (.txqFull cmdK), []⟩] :=
  ⟨⟨_, rfl, by decide⟩, ⟨_, rfl, by decide⟩, ⟨_, rfl, by decide⟩, ⟨_, rfl, by decide⟩, ⟨_, rfl, by decide⟩,
    ⟨_, rfl, by decide⟩, ⟨_, rfl, by decide⟩⟩

/-- Each tag that is emitted: a step that emits it. -/
theorem witness_EachTelegramHasItsCause :
    (∀ x ∈ [(okF, Event.telegram .ok (some okF)), (badF, .telegram .crcError (some badF)),
        (nfuF, .telegram .notForUs (some nfuF)), (suspF, .telegram .suspend none), (resF, .telegram .resume none)],
      (after (exec (.asmLast x.1.cks) { live with fr := x.1, fidx := 5, rxq := [x.1.cks] })).map State.evt =
        some [⟨x.2, []⟩]) ∧
    ∃ t, exec (.tickAcked cmdK) { live with txq := [⟨.command, cmdK, 1⟩], ackValid := true, ackByte := 0x60 } =
      .next t ∧ t.evt = [⟨.telegram .ack (some cmdK), []⟩] :=
  ⟨by decide, ⟨_, rfl, by decide⟩⟩

/-- Registered and not; the answers exist. -/
theorem witness_RegistrationIsIdempotent :
    let s : State := { live with listeners := [0, 4] }
    s.listeners.Pairwise (· < ·) ∧ 0 ∈ s.listeners ∧ 2 ∉ s.listeners ∧
    (∃ t, exec (.ladd 2) s = .next t) ∧ ∃ t, exec (.lrem 4) s = .next t :=
  ⟨by decide, by decide, by decide, ⟨_, rfl⟩, ⟨_, rfl⟩⟩

/-- Each row. -/
theorem witness_AssemblerStepSelection :
    let s : State := { live with script := [.asm], rxq := [0x01] }
    let a : State := { s with rxq := [0x60], waitingForAck := true }
    let d : State := { s with rxq := [0x60] }
    s.script = .asm :: [] ∧ ({ s with connected := false } : State).connected = false ∧
    ({ s with rxq := [] } : State).rxq = [] ∧
    (s.connected = true ∧ s.rxq = 0x01 :: [] ∧ s.fidx = 0 ∧ (0x01 : Byte) = Config.sync) ∧
    (a.rxq = 0x60 :: [] ∧ (0x60 : Byte) ≠ Config.sync ∧ a.waitingForAck = true) ∧ d.waitingForAck = false ∧
    (∀ n ∈ ([1, 4] : List (Fin Config.frameLen)), 1 ≤ n.val ∧ n.val ≤ 4) ∧ ({ s with fidx := 5 } : State).fidx = 5 := by
  decide

/-- Each row. -/
theorem witness_TickSelection :
    let s : State := { live with script := [.tick .ok] }
    let p : State := { s with txq := [⟨.poll, pollQ, 0⟩] }
    let c : State := { s with txq := [⟨.command, cmdK, 1⟩] }
    let a : State := { c with ackValid := true, ackByte := 0x60 }
    let e : State := { a with txq := [⟨.command, cmdK, 0⟩] }
    s.script = .tick .ok :: [] ∧ ({ s with script := [.tick .fail] } : State).script = .tick .fail :: [] ∧ s.txq = [] ∧
    (p.connected = true ∧ p.suspended = false ∧ p.txq = ⟨.poll, pollQ, 0⟩ :: []) ∧
    (c.txq = ⟨.command, cmdK, 1⟩ :: [] ∧ 0 < 1 ∧ c.ackValid = false) ∧
    (a.txq = ⟨.command, cmdK, 1⟩ :: [] ∧ a.ackValid = true ∧ cmdK.cks = a.ackByte) ∧
    e.txq = ⟨.command, cmdK, 0⟩ :: [] := by decide

/-- The two rows of a byte, at the capacity; every other clause is met by the script alone. -/
theorem witness_InterfaceEventSelection :
    let s : State := { small with script := [.rxb 0x10], rxq := [1, 2, 3] }
    let f : State := { small with script := [.rxb 0x10], rxq := [1, 2, 3, 4] }
    (s.script = .rxb 0x10 :: [] ∧ s.rxq.length < s.params.rxqCap) ∧
    (f.script = .rxb 0x10 :: [] ∧ f.connected = true ∧ f.rxq.length = f.params.rxqCap) ∧
    ∀ e ∈ [Stimulus.rxerr 0, .rxioerr, .sendP pollQ, .sendC cmdK, .connect 0x22 .ok, .close, .isconn, .ladd 0, .lrem 0,
      .reset], ({ live with script := [e] } : State).script = e :: [] := by decide

/-- A unit that decodes; an assembler that waits; no stimulus left. -/
theorem witness_StepRunsTheDecodedOperation :
    let s : State := { live with script := [.asm], rxq := [0x01] }
    s.script = .asm :: [] ∧ fetch .asm { s with script := [] } = some (.asm, [0x01]) ∧
    decode .asm s.view [0x01] = .op .asmSync ∧
    fetch .asm { live with script := [] } = none ∧ live.script = [] := by decide

theorem witness_SpecWordsDecode : live.view.connected = true ∧ live.view.fidx = 0 := by decide

/-- Both cases. -/
theorem witness_ExecRunsExactlyWhenSelected :
    live.enables .tickNop = true ∧ live.enables .asmSync = false := by decide

/-- A step of a sound state answers. -/
theorem witness_SoundStatesStaySound :
    let s : State := { live with script := [.rxb 0x01] }
    s.Inv ∧ ∃ t, step s = .next t :=
  ⟨⟨by decide, by decide, by decide, by decide, by decide, by decide, by decide, by decide⟩, ⟨_, rfl⟩⟩

/-- Each register changes in some step. -/
theorem witness_FlagAndRegisterWriters :
    (∃ t, exec .close live = .next t ∧ t.connected ≠ live.connected) ∧
    (∃ t, exec (.tickRetry cmdK) { live with txq := [⟨.command, cmdK, 1⟩] } = .next t ∧ t.waitingForAck = true) ∧
    (∃ t, exec (.clsSuspend suspF) { live with fr := suspF } = .next t ∧ t.suspended ≠ live.suspended) ∧
    (∃ t, exec (.asmAck 0x60) { live with waitingForAck := true, rxq := [0x60] } = .next t ∧
      t.ackValid ≠ live.ackValid) ∧
    (∃ t, exec (.connect 0x23 .ok) { live with connected := false } = .next t ∧ t.ownAddr ≠ live.ownAddr) ∧
    ∃ t, exec (.ladd 0) live = .next t ∧ t.listeners ≠ live.listeners :=
  ⟨⟨_, rfl, by decide⟩, ⟨_, rfl, by decide⟩, ⟨_, rfl, by decide⟩, ⟨_, rfl, by decide⟩, ⟨_, rfl, by decide⟩,
    ⟨_, rfl, by decide⟩⟩

/-- Each queue and register changes in some step. -/
theorem witness_QueueAndFrameWriters :
    (∃ t, exec .asmSync { live with rxq := [0x01] } = .next t ∧ t.fr ≠ live.fr ∧ t.fidx ≠ live.fidx) ∧
    (∃ t, exec (.rxpush 0x01) live = .next t ∧ t.rxq ≠ live.rxq) ∧
    ∃ t, exec (.sendP pollQ) live = .next t ∧ t.txq ≠ live.txq :=
  ⟨⟨_, rfl, by decide, by decide⟩, ⟨_, rfl, by decide⟩, ⟨_, rfl, by decide⟩⟩

/-- Also for TracesGrowByAtMostOne: a step that reports, with a listener registered and one not. -/
theorem witness_ListenersReceiveLaterEventsOnly :
    let s : State := { live with script := [.close], listeners := [4] }
    (∃ t, step s = .next t ∧ t.evt ≠ s.evt) ∧ 4 ∈ s.listeners ∧ 5 ∉ s.listeners :=
  ⟨⟨_, rfl, by decide⟩, by decide, by decide⟩

/-- Suspended; disconnected. -/
theorem witness_NoWriteWhileSuspendedOrClosed :
    let s : State := { live with script := [.tick .ok], suspended := true, txq := [⟨.poll, pollQ, 3⟩] }
    let d : State := { s with suspended := false, connected := false }
    (∃ t, step s = .next t) ∧ s.suspended = true ∧ (∃ t, step d = .next t) ∧ d.connected = false :=
  ⟨⟨_, rfl⟩, by decide, ⟨_, rfl⟩, by decide⟩

/-- A change into and out of each mode. -/
theorem witness_ModeChanges :
    (∃ t, exec .close live = .next t ∧ t.mode ≠ live.mode ∧ t.mode = .disconnected) ∧
    (∃ t, exec (.connect 0x22 .ok) { live with connected := false } = .next t ∧ t.mode = .running) ∧
    (∃ t, exec (.clsSuspend suspF) { live with fr := suspF } = .next t ∧ live.mode = .running ∧ t.mode = .suspended) ∧
    ∃ t, exec (.clsResume resF) { live with fr := resF, suspended := true } = .next t ∧
      ({ live with suspended := true } : State).mode = .suspended ∧ t.mode = .running :=
  ⟨⟨_, rfl, by decide, by decide⟩, ⟨_, rfl, by decide⟩, ⟨_, rfl, by decide, by decide⟩, ⟨_, rfl, by decide, by decide⟩⟩

/-- V-R row 3's inputs. -/
theorem witness_ClosedEngineIsInert :
    let es : List Stimulus := [.tick .ok, .rxb 0x01, .sendP pollQ, .close, .asm, .rxerr 0, .rxioerr, .sendC cmdK]
    let s : State := { live with connected := false, rxq := [0x01], txq := [⟨.poll, pollQ, 3⟩], script := es ++ [] }
    s.connected = false ∧ (∀ e ∈ es, ignoredWhenClosed e = true) ∧ s.script = es ++ [] := by decide

theorem witness_NothingAgesWhileSuspended :
    let ws : List Draw := [.ok, .fail]
    let s : State := { live with suspended := true, txq := [⟨.command, cmdK, 0⟩], script := ws.map .tick ++ [.asm] }
    s.suspended = true ∧ s.script = ws.map .tick ++ [.asm] := by decide

/-- Budgets 0 and 1, without and with a byte recorded. -/
theorem witness_RetryBudgetIsExact :
    ∀ n ∈ [0, 1],
      let s : State := { live with
        txq := [⟨.command, cmdK, n⟩], script := List.replicate (n + 1) (.tick .ok) ++ [], ackValid := true
        ackByte := 0x61 }
      s.connected = true ∧ s.suspended = false ∧ s.txq = ⟨.command, cmdK, n⟩ :: [] ∧
      (s.ackValid = false ∨ cmdK.cks ≠ s.ackByte) ∧ s.script = List.replicate (n + 1) (.tick .ok) ++ [] := by decide

/-- Two polls before a command. -/
theorem witness_PollsDrainInOrder :
    let fs : List (Frame × Nat) := [(pollQ, 3), (cmdK, 0)]
    let s : State := { live with
      txq := fs.map (fun x => ⟨.poll, x.1, x.2⟩) ++ [⟨.command, cmdK, 3⟩]
      script := List.replicate fs.length (.tick .ok) ++ [] }
    s.connected = true ∧ s.suspended = false ∧
    s.txq = fs.map (fun x => ⟨.poll, x.1, x.2⟩) ++ [⟨.command, cmdK, 3⟩] ∧
    s.script = List.replicate fs.length (.tick .ok) ++ [] := by decide

/-- The smallest budget and the smallest capacity; the write would have failed. -/
theorem witness_StaleAckAcknowledgesUnsentCommand :
    let s : State := { live with
      params := { refParams with retryN := 1, txqCap := some 1 }
      ackValid := true, ackByte := 0x60, script := [.sendC cmdK, .tick .fail] }
    s.connected = true ∧ s.suspended = false ∧ s.txq = [] ∧ (∀ c ∈ s.params.txqCap, 1 ≤ c) ∧ 0 < s.params.retryN ∧
    s.ackValid = true ∧ s.ackByte = cmdK.cks ∧ s.script = .sendC cmdK :: .tick .fail :: [] := by decide

/-- A recorded byte, and the command of P9. -/
theorem witness_SyncChecksumIsNeverAcknowledged :
    let s : State := { live with ackValid := true, ackByte := 0x60 }
    s.ackNotSync ∧ (∃ t, step s = .next t) ∧ (⟨0x01, 0x22, 0x11, 0x29, 0xA4, 0x01⟩ : Frame).cks = Config.sync :=
  ⟨fun _ => by decide, ⟨_, rfl⟩, by decide⟩

/-- V-A row 15. -/
theorem witness_ReceivePathIsHuntAndFill :
    let s : State := { live with rxq := [0x55, 0x01, 0x11, 0x22, 0x35, 0x10, 0x79] }
    s.connected = true ∧ s.fidx = 0 ∧ s.script = [] ∧
    telegramsOf s.params s.ownAddr s.rxq = [.telegram .ok (some okF)] := by decide

/-- V-A row 15, with one more byte behind. -/
theorem witness_StrayByteThenFrameResynchronises :
    let s : State := { live with
      rxq := 0x55 :: (okF.bytes ++ [0xAA]), script := List.replicate 7 .asm ++ [] }
    s.connected = true ∧ s.fidx = 0 ∧ s.waitingForAck = false ∧ (0x55 : Byte) ≠ Config.sync ∧ okF.sync = Config.sync ∧
    s.rxq = 0x55 :: (okF.bytes ++ [0xAA]) ∧ s.script = List.replicate 7 .asm ++ [] := by decide

/-- Two states that differ in the send path, and each operation of the assembler enabled in one. -/
theorem witness_ReceivePathIgnoresTheSendQueue :
    let s : State := { live with rxq := [0x01] }
    let t : State := { s with txq := [⟨.poll, pollQ, 3⟩], suspended := true, txw := [⟨cmdK, .ok⟩] }
    s.sameReceivePath t ∧ s ≠ t ∧ (∃ u, exec .asmSync s = .next u) ∧
    (∃ u, exec (.asmAck 0x60) { s with rxq := [0x60], waitingForAck := true } = .next u) ∧
    (∃ u, exec (.asmDrop 0x60) { s with rxq := [0x60] } = .next u) ∧
    (∃ u, exec (.asmFill 0x01) { s with fidx := 4 } = .next u) ∧
    ∃ u, exec (.asmLast 0x01) { s with fidx := 5 } = .next u :=
  ⟨⟨rfl, rfl, rfl, rfl, rfl, rfl, rfl, rfl, rfl⟩, by decide, ⟨_, rfl⟩, ⟨_, rfl⟩, ⟨_, rfl⟩, ⟨_, rfl⟩, ⟨_, rfl⟩⟩

/-- Two states that differ in the receive path, and a tick that writes. -/
theorem witness_TickIgnoresTheReceivePath :
    let s : State := { live with txq := [⟨.command, cmdK, 3⟩] }
    let t : State := { s with rxq := [0x60], fidx := 3, fr := okF, ownAddr := 0 }
    s.sameSendPath t ∧ s ≠ t ∧ ∃ u, takeStimulus (.tick .ok) s = .next u :=
  ⟨⟨rfl, rfl, rfl, rfl, rfl, rfl, rfl, rfl⟩, by decide, ⟨_, rfl⟩⟩

end Sys2Proof.Tests
end

section
/-! SUPPORT. Proofs, family 10_state.md. What each operation writes, said once per element of the state: the events,
writes and returned values it appends, and the ways it may change RXQ, TXQ, the frame register and the listener set. -/

namespace Sys2Proof.Machine

/-! ## The conditional operations, as frames -/

/-- SEND writes TXQ and EVT and nothing else (R151, R152). -/
theorem sendItem_frame (k : Kind) (f : Frame) (s : State) :
    sendItem k f s = { s with txq := (sendItem k f s).txq, evt := (sendItem k f s).evt } := by
  obtain ⟨-, h⟩ | ⟨-, -, h⟩ | ⟨-, -, h⟩ := sendItem_cases k f s
  · rw [h]
  · rw [h]; rfl
  · rw [h]

@[simp] theorem sendItem_connected (k : Kind) (f : Frame) (s : State) :
    (sendItem k f s).connected = s.connected := by rw [sendItem_frame]
@[simp] theorem sendItem_waitingForAck (k : Kind) (f : Frame) (s : State) :
    (sendItem k f s).waitingForAck = s.waitingForAck := by rw [sendItem_frame]
@[simp] theorem sendItem_suspended (k : Kind) (f : Frame) (s : State) :
    (sendItem k f s).suspended = s.suspended := by rw [sendItem_frame]
@[simp] theorem sendItem_ackValid (k : Kind) (f : Frame) (s : State) :
    (sendItem k f s).ackValid = s.ackValid := by rw [sendItem_frame]
@[simp] theorem sendItem_ackByte (k : Kind) (f : Frame) (s : State) :
    (sendItem k f s).ackByte = s.ackByte := by rw [sendItem_frame]
@[simp] theorem sendItem_ownAddr (k : Kind) (f : Frame) (s : State) :
    (sendItem k f s).ownAddr = s.ownAddr := by rw [sendItem_frame]
@[simp] theorem sendItem_fr (k : Kind) (f : Frame) (s : State) : (sendItem k f s).fr = s.fr := by rw [sendItem_frame]
@[simp] theorem sendItem_fidx (k : Kind) (f : Frame) (s : State) :
    (sendItem k f s).fidx = s.fidx := by rw [sendItem_frame]
@[simp] theorem sendItem_rxq (k : Kind) (f : Frame) (s : State) :
    (sendItem k f s).rxq = s.rxq := by rw [sendItem_frame]
@[simp] theorem sendItem_listeners (k : Kind) (f : Frame) (s : State) :
    (sendItem k f s).listeners = s.listeners := by rw [sendItem_frame]
@[simp] theorem sendItem_txw (k : Kind) (f : Frame) (s : State) :
    (sendItem k f s).txw = s.txw := by rw [sendItem_frame]
@[simp] theorem sendItem_ret (k : Kind) (f : Frame) (s : State) :
    (sendItem k f s).ret = s.ret := by rw [sendItem_frame]
@[simp] theorem sendItem_params (k : Kind) (f : Frame) (s : State) :
    (sendItem k f s).params = s.params := by rw [sendItem_frame]

/-- CONNECT starts the engine, or returns a value and changes nothing else (R181). -/
theorem effectOf_connect_cases (own : Byte) (o : OpenResult) (s : State) :
    (∃ r, effectOf (.connect own o) s = giveBack r s) ∨
    (o = .ok ∧ effectOf (.connect own o) s = giveBack (.connect .ok) (startEngine own s)) := by
  cases hc : s.connected
  · cases o with
    | ok => exact .inr ⟨rfl, by simp [effectOf, hc]⟩
    | fail reason => exact .inl ⟨.connect (.fail reason), by simp [effectOf, hc]⟩
  · exact .inl ⟨.connect .ok, by simp [effectOf, hc]⟩

/-- CLOSE does nothing, or clears `connected` and cancels the assembler (R182). -/
theorem effectOf_close_cases (s : State) :
    effectOf .close s = s ∨ effectOf .close s = cancelAssembler { s with connected := false } := by
  cases hc : s.connected
  · exact .inl (by simp [effectOf, hc])
  · exact .inr (by simp [effectOf, hc])

/-- No operation writes the parameters (R22, R244). -/
@[simp] theorem effectOf_params (i : Instr) (s : State) : (effectOf i s).params = s.params := by
  cases i with
  | connect own o =>
    obtain ⟨r, h⟩ | ⟨-, h⟩ := effectOf_connect_cases own o s <;> simp [h, startEngine]
  | _ => simp [effectOf, apply_ite State.params, cancelAssembler]

/-! ## What is appended to the traces -/

/-- The event an operation reports where it is selected, if any (R132 to R136, R200). -/
def eventOf (i : Instr) (s : State) : Option Event :=
  match i with
  | .rxpushOvf _ => some (.error .rxqOverflow)
  | .rxerr k => if s.connected then some (.error (.lineError k)) else none
  | .rxioerr => if s.connected then some (.error .rxIo) else none
  | .asmLast b =>
    some (verdictTelegram (s.fr.set 5 b) (classify s.params s.ownAddr (s.fr.set 5 b)))
  | .asmCancel => some (.error .cancelled)
  | .clsCrcerr f => some (.telegram .crcError (some f))
  | .clsSuspend _ => some (.telegram .suspend none)
  | .clsResume _ => some (.telegram .resume none)
  | .clsOk f => some (.telegram .ok (some f))
  | .clsNfu f => some (.telegram .notForUs (some f))
  | .tickAcked f => some (.telegram .ack (some f))
  | .tickExhaust f => some (.error (.ackNotReceived f))
  | .tickTxfail _ f => some (.error (.txWriteFailed f))
  | .sendP f => if s.connected && s.txFull then some (.error (.txqFull f)) else none
  | .sendC f => if s.connected && s.txFull then some (.error (.txqFull f)) else none
  | .close => if s.connected then some (.error .cancelled) else none
  | _ => none

/-- The transport write an operation makes, if any (R155, R157, R159). -/
def writeOf : Instr → Option TxRecord
  | .tickPoll f => some ⟨f, .ok⟩
  | .tickRetry f => some ⟨f, .ok⟩
  | .tickTxfail _ f => some ⟨f, .fail⟩
  | _ => none

/-- The value an operation returns to the host, if any (R181, R183; log 11). -/
def returnOf (i : Instr) (s : State) : Option Return :=
  match i with
  | .connect _ o => some (.connect (if s.connected then .ok else o))
  | .isconn => some (.isconn s.connected)
  | _ => none

theorem sendItem_evt (k : Kind) (f : Frame) (s : State) :
    (sendItem k f s).evt =
      s.evt ++
        (if s.connected && s.txFull then some (Event.error (.txqFull f)) else none).toList.map (⟨·, s.listeners⟩) := by
  obtain ⟨hc, h⟩ | ⟨hc, hf, h⟩ | ⟨hc, hf, h⟩ := sendItem_cases k f s <;> simp [*]

/-- An operation appends its event to EVT, delivered to the listeners registered (R205, R207), and nothing else. -/
theorem effectOf_evt (i : Instr) (s : State) :
    (effectOf i s).evt = s.evt ++ (eventOf i s).toList.map (⟨·, s.listeners⟩) := by
  cases i with
  | rxerr k => cases hc : s.connected <;> simp [effectOf, eventOf, hc]
  | rxioerr => cases hc : s.connected <;> simp [effectOf, eventOf, hc]
  | sendP f => exact sendItem_evt .poll f s
  | sendC f => exact sendItem_evt .command f s
  | connect own o =>
    obtain ⟨r, h⟩ | ⟨-, h⟩ := effectOf_connect_cases own o s <;> simp [h, eventOf, startEngine]
  | close => cases hc : s.connected <;> simp [effectOf, eventOf, hc, cancelAssembler]
  | _ => simp [effectOf, eventOf, apply_ite State.evt, cancelAssembler]

/-- An operation appends its write to TXW and nothing else (R159). -/
theorem effectOf_txw (i : Instr) (s : State) : (effectOf i s).txw = s.txw ++ (writeOf i).toList := by
  cases i with
  | connect own o =>
    obtain ⟨r, h⟩ | ⟨-, h⟩ := effectOf_connect_cases own o s <;> simp [h, writeOf, startEngine]
  | _ => simp [effectOf, writeOf, apply_ite State.txw, cancelAssembler]

/-- An operation appends its returned value and nothing else (log 11). -/
theorem effectOf_ret (i : Instr) (s : State) : (effectOf i s).ret = s.ret ++ (returnOf i s).toList := by
  cases i with
  | connect own o => cases o <;> cases hc : s.connected <;> simp [effectOf, returnOf, hc, startEngine]
  | _ => simp [effectOf, returnOf, apply_ite State.ret, cancelAssembler]

theorem append_toList_eq_or {α : Type} (l : List α) (o : Option α) :
    l ++ o.toList = l ∨ ∃ a, l ++ o.toList = l ++ [a] := by
  cases o with
  | none => exact .inl (List.append_nil l)
  | some a => exact .inr ⟨a, rfl⟩

/-- Where EVT has grown by an event, that is the event the operation reports. -/
theorem eventOf_of_evt_append {i : Instr} {s : State} {e : Event}
    (h : (effectOf i s).evt = s.evt ++ [⟨e, s.listeners⟩]) : eventOf i s = some e := by
  rw [effectOf_evt, List.append_cancel_left_eq] at h
  cases he : eventOf i s <;> simp_all

/-- The telegrams reported (R10, R76): by ASM.LAST the verdict on the frame it completes, by CLS its own, by
TICK.ACKED the acknowledgement. -/
theorem eventOf_eq_telegram {i : Instr} {s : State} {tag : Tag} {payload : Option Frame}
    (h : eventOf i s = some (.telegram tag payload)) :
    (∃ b v, i = .asmLast b ∧ verdictTelegram (s.fr.set 5 b) v = .telegram tag payload) ∨
    (∃ f v, i = Verdict.op f v ∧ verdictTelegram f v = .telegram tag payload) ∨
    (∃ f, i = .tickAcked f ∧ tag = .ack ∧ payload = some f) := by
  cases i with
  | asmLast b => exact .inl ⟨b, _, rfl, Option.some.inj h⟩
  | clsCrcerr f => exact .inr (.inl ⟨f, .crcError, rfl, Option.some.inj h⟩)
  | clsSuspend f => exact .inr (.inl ⟨f, .suspend, rfl, Option.some.inj h⟩)
  | clsResume f => exact .inr (.inl ⟨f, .resume, rfl, Option.some.inj h⟩)
  | clsOk f => exact .inr (.inl ⟨f, .ok, rfl, Option.some.inj h⟩)
  | clsNfu f => exact .inr (.inl ⟨f, .notForUs, rfl, Option.some.inj h⟩)
  | tickAcked f => cases h; exact .inr (.inr ⟨f, rfl, rfl, rfl⟩)
  | _ => simp [eventOf] at h

/-! ## The ways the queues, the frame register and the listener set change -/

/-- The ways an operation may write RXQ, with the queue it leaves (R18, R24, 20_memory.md section 2). -/
inductive RxqWrite (s : State) : Instr → List Byte → Prop
  | kept {i : Instr} {q : List Byte} (h : q = s.rxq) : RxqWrite s i q
  | queued (b : Byte) (room : s.rxFull = false) : RxqWrite s (.rxpush b) (s.rxq ++ [b])
  | overflowed (b : Byte) : RxqWrite s (.rxpushOvf b) []
  | taken {i : Instr} (h : i = .asmSync ∨ ∃ b, i = .asmAck b ∨ i = .asmDrop b ∨ i = .asmFill b ∨ i = .asmLast b) :
    RxqWrite s i s.rxq.tail
  | cleared {i : Instr} (h : (∃ own, i = .connect own .ok) ∨ i = .reset) : RxqWrite s i []

/-- The ways an operation may write TXQ, with the queue it leaves (R19, R24, 20_memory.md section 3). -/
inductive TxqWrite (s : State) : Instr → List Item → Prop
  | kept {i : Instr} {q : List Item} (h : q = s.txq) : TxqWrite s i q
  | queuedPoll (f : Frame) (room : s.txFull = false) : TxqWrite s (.sendP f) (s.txq ++ [newItem .poll f s])
  | queuedCommand (f : Frame) (room : s.txFull = false) : TxqWrite s (.sendC f) (s.txq ++ [newItem .command f s])
  | headDone {i : Instr} (h : ∃ f, i = .tickPoll f ∨ i = .tickAcked f ∨ i = .tickExhaust f) :
    TxqWrite s i s.txq.tail
  | headRetried {f : Frame} {r : Nat} {q : List Item} (h : s.txq = ⟨.command, f, r + 1⟩ :: q) :
    TxqWrite s (.tickRetry f) (⟨.command, f, r⟩ :: q)
  | cleared {i : Instr} (h : (∃ k f, i = .tickTxfail k f) ∨ (∃ own, i = .connect own .ok) ∨ i = .reset) :
    TxqWrite s i []

/-- The ways an operation may write FR and FIDX, with what it leaves in them (R17, R24, log 9). -/
inductive FrameWrite (s : State) : Instr → Frame → Fin Config.frameLen → Prop
  | kept {i : Instr} {f : Frame} {n : Fin Config.frameLen} (hf : f = s.fr) (hn : n = s.fidx) : FrameWrite s i f n
  | begun : FrameWrite s .asmSync (s.fr.set 0 Config.sync) 1
  | filled (b : Byte) (h : s.fidx ≠ 0) : FrameWrite s (.asmFill b) (s.fr.set s.fidx b) (s.fidx + 1)
  | completed (b : Byte) : FrameWrite s (.asmLast b) (s.fr.set 5 b) 0
  | cancelled {i : Instr} (h : i = .asmCancel ∨ i = .close) : FrameWrite s i s.fr 0
  | restarted {i : Instr} (f : Frame) (h : (∃ own, i = .connect own .ok) ∨ i = .reset) : FrameWrite s i f 0

theorem effectOf_rxqWrite {i : Instr} {s : State} (h : s.enables i = true) : RxqWrite s i (effectOf i s).rxq := by
  cases i with
  | rxpush b =>
    cases hc : s.connected with
    | false => exact .kept (by simp [effectOf, hc])
    | true =>
      have room : s.rxFull = false := by simpa [State.enables, Instr.condition, State.holdsOperand, hc] using h
      simpa [effectOf, hc] using RxqWrite.queued b room
  | rxpushOvf b => exact .overflowed b
  | asmSync => exact .taken (.inl rfl)
  | asmAck b => exact .taken (.inr ⟨b, .inl rfl⟩)
  | asmDrop b => exact .taken (.inr ⟨b, .inr (.inl rfl)⟩)
  | asmFill b => exact .taken (.inr ⟨b, .inr (.inr (.inl rfl))⟩)
  | asmLast b => exact .taken (.inr ⟨b, .inr (.inr (.inr rfl))⟩)
  | connect own o =>
    obtain ⟨r, ht⟩ | ⟨rfl, ht⟩ := effectOf_connect_cases own o s
    · exact .kept (by simp [ht])
    · rw [ht]; exact .cleared (.inl ⟨own, rfl⟩)
  | reset => exact .cleared (.inr rfl)
  | _ => exact .kept (by simp [effectOf, apply_ite State.rxq, cancelAssembler])

/-- SEND queues the item where there is room, or leaves TXQ as it is (R151, R152). -/
theorem sendItem_txq (k : Kind) (f : Frame) (s : State) :
    (sendItem k f s).txq = s.txq ∨ s.txFull = false ∧ (sendItem k f s).txq = s.txq ++ [newItem k f s] := by
  obtain ⟨-, h⟩ | ⟨-, -, h⟩ | ⟨-, room, h⟩ := sendItem_cases k f s
  · exact .inl (by rw [h])
  · exact .inl (by rw [h, raiseErr_txq])
  · exact .inr ⟨room, by rw [h]⟩

/-- A selected TICK.RETRY finds a command with retries left at the head of TXQ (R82, R157). -/
theorem txq_of_enables_tickRetry {s : State} {f : Frame} (h : s.enables (.tickRetry f) = true) :
    ∃ r q, s.txq = ⟨.command, f, r + 1⟩ :: q := by
  obtain ⟨r, q, hq⟩ := txHead_of_enables h rfl
  have hr : 0 < r := by
    simp only [State.enables, Instr.condition, Bool.and_eq_true, view_headRetries] at h
    obtain ⟨⟨⟨-, hr⟩, -⟩, -⟩ := h
    simpa [State.headRetries, hq] using hr
  exact ⟨r - 1, q, by rw [hq, Nat.sub_add_cancel hr]⟩

theorem effectOf_txqWrite {i : Instr} {s : State} (h : s.enables i = true) : TxqWrite s i (effectOf i s).txq := by
  cases i with
  | tickPoll f => exact .headDone ⟨f, .inl rfl⟩
  | tickAcked f => exact .headDone ⟨f, .inr (.inl rfl)⟩
  | tickExhaust f => exact .headDone ⟨f, .inr (.inr rfl)⟩
  | tickRetry f =>
    obtain ⟨r, q, hq⟩ := txq_of_enables_tickRetry h
    simpa [effectOf, State.headRetries, hq] using TxqWrite.headRetried hq
  | tickTxfail k f => exact .cleared (.inl ⟨k, f, rfl⟩)
  | sendP f =>
    obtain ht | ⟨room, ht⟩ := sendItem_txq .poll f s
    · exact .kept ht
    · rw [effectOf, ht]; exact .queuedPoll f room
  | sendC f =>
    obtain ht | ⟨room, ht⟩ := sendItem_txq .command f s
    · exact .kept ht
    · rw [effectOf, ht]; exact .queuedCommand f room
  | connect own o =>
    obtain ⟨r, ht⟩ | ⟨rfl, ht⟩ := effectOf_connect_cases own o s
    · exact .kept (by simp [ht])
    · rw [ht]; exact .cleared (.inr (.inl ⟨own, rfl⟩))
  | reset => exact .cleared (.inr (.inr rfl))
  | _ => exact .kept (by simp [effectOf, apply_ite State.txq, cancelAssembler])

theorem effectOf_frameWrite {i : Instr} {s : State} (h : s.enables i = true) :
    FrameWrite s i (effectOf i s).fr (effectOf i s).fidx := by
  cases i with
  | asmSync => exact .begun
  | asmFill b =>
    have hn : s.fidx ≠ 0 := by
      simp only [State.enables, Instr.condition, Bool.and_eq_true, bne_iff_ne, view_fidx] at h
      obtain ⟨⟨⟨-, hn⟩, -⟩, -⟩ := h
      exact hn
    exact .filled b hn
  | asmLast b => exact .completed b
  | asmCancel => exact .cancelled (.inl rfl)
  | connect own o =>
    obtain ⟨r, ht⟩ | ⟨rfl, ht⟩ := effectOf_connect_cases own o s <;> rw [ht]
    · exact .kept rfl rfl
    · exact .restarted _ (.inl ⟨own, rfl⟩)
  | close =>
    obtain ht | ht := effectOf_close_cases s <;> rw [ht]
    · exact .kept rfl rfl
    · exact .cancelled (.inr rfl)
  | reset => exact .restarted _ (.inr rfl)
  | _ => exact .kept (by simp [effectOf, apply_ite State.fr]) (by simp [effectOf, apply_ite State.fidx])

theorem FrameWrite.fr_writer {s : State} {i : Instr} {f : Frame} {n : Fin Config.frameLen} (h : FrameWrite s i f n)
    (hf : f ≠ s.fr) :
    i = .asmSync ∨ (∃ b, i = .asmFill b) ∨ (∃ b, i = .asmLast b) ∨ (∃ own, i = .connect own .ok) ∨ i = .reset := by
  cases h with
  | kept h => exact absurd h hf
  | begun => exact .inl rfl
  | filled b => exact .inr (.inl ⟨b, rfl⟩)
  | completed b => exact .inr (.inr (.inl ⟨b, rfl⟩))
  | cancelled => exact absurd rfl hf
  | restarted _ h => exact .inr (.inr (.inr h))

theorem FrameWrite.fidx_writer {s : State} {i : Instr} {f : Frame} {n : Fin Config.frameLen} (h : FrameWrite s i f n)
    (hn : n ≠ s.fidx) :
    i = .asmSync ∨ (∃ b, i = .asmFill b) ∨ (∃ b, i = .asmLast b) ∨ i = .asmCancel ∨ i = .close ∨
      (∃ own, i = .connect own .ok) ∨ i = .reset := by
  cases h with
  | kept _ h => exact absurd h hn
  | begun => exact .inl rfl
  | filled b => exact .inr (.inl ⟨b, rfl⟩)
  | completed b => exact .inr (.inr (.inl ⟨b, rfl⟩))
  | cancelled h => exact .inr (.inr (.inr (h.imp_right .inl)))
  | restarted _ h => exact .inr (.inr (.inr (.inr (.inr h))))

theorem RxqWrite.writer {s : State} {i : Instr} {q : List Byte} (h : RxqWrite s i q) (hq : q ≠ s.rxq) :
    (∃ b, i = .rxpush b ∧ q = s.rxq ++ [b]) ∨ ((∃ b, i = .rxpushOvf b) ∧ q = []) ∨
      ((i = .asmSync ∨ (∃ b, i = .asmAck b ∨ i = .asmDrop b ∨ i = .asmFill b ∨ i = .asmLast b)) ∧
        q = s.rxq.tail) ∨
      (((∃ own, i = .connect own .ok) ∨ i = .reset) ∧ q = []) := by
  cases h with
  | kept h => exact absurd h hq
  | queued b => exact .inl ⟨b, rfl, rfl⟩
  | overflowed b => exact .inr (.inl ⟨⟨b, rfl⟩, rfl⟩)
  | taken h => exact .inr (.inr (.inl ⟨h, rfl⟩))
  | cleared h => exact .inr (.inr (.inr ⟨h, rfl⟩))

theorem TxqWrite.writer {s : State} {i : Instr} {q : List Item} (h : TxqWrite s i q) (hq : q ≠ s.txq) :
    (∃ f, i = .sendP f ∧ q = s.txq ++ [⟨.poll, f, s.params.retryN⟩]) ∨
      (∃ f, i = .sendC f ∧ q = s.txq ++ [⟨.command, f, s.params.retryN⟩]) ∨
      ((∃ f, i = .tickPoll f ∨ i = .tickAcked f ∨ i = .tickExhaust f) ∧ q = s.txq.tail) ∨
      (∃ f r q', i = .tickRetry f ∧ s.txq = ⟨.command, f, r + 1⟩ :: q' ∧ q = ⟨.command, f, r⟩ :: q') ∨
      (((∃ k f, i = .tickTxfail k f) ∨ (∃ own, i = .connect own .ok) ∨ i = .reset) ∧ q = []) := by
  cases h with
  | kept h => exact absurd h hq
  | queuedPoll f => exact .inl ⟨f, rfl, rfl⟩
  | queuedCommand f => exact .inr (.inl ⟨f, rfl, rfl⟩)
  | headDone h => exact .inr (.inr (.inl ⟨h, rfl⟩))
  | headRetried h => exact .inr (.inr (.inr (.inl ⟨_, _, _, rfl, h, rfl⟩)))
  | cleared h => exact .inr (.inr (.inr (.inr ⟨h, rfl⟩)))

/-- LISTENERS is written by LADD, LREM and RESET only (R20, R24). -/
theorem effectOf_listeners (i : Instr) (s : State) :
    (effectOf i s).listeners = s.listeners ∨
    (∃ l, i = .ladd l ∧ (effectOf i s).listeners = insertListener l s.listeners) ∨
    (∃ l, i = .lrem l ∧ (effectOf i s).listeners = eraseListener l s.listeners) ∨
    (i = .reset ∧ (effectOf i s).listeners = []) := by
  cases i with
  | connect own o =>
    obtain ⟨r, h⟩ | ⟨-, h⟩ := effectOf_connect_cases own o s <;> exact .inl (by rw [h]; rfl)
  | ladd l => exact .inr (.inl ⟨l, rfl, rfl⟩)
  | lrem l => exact .inr (.inr (.inl ⟨l, rfl, rfl⟩))
  | reset => exact .inr (.inr (.inr ⟨rfl, rfl⟩))
  | _ => exact .inl (by simp [effectOf, apply_ite State.listeners, cancelAssembler])

/-! ## The registers -/

theorem effectOf_connected_writer {i : Instr} {s : State} (h : (effectOf i s).connected ≠ s.connected) :
    (∃ own, i = .connect own .ok) ∨ i = .close ∨ i = .reset := by
  cases i with
  | connect own o =>
    obtain ⟨r, ht⟩ | ⟨rfl, -⟩ := effectOf_connect_cases own o s
    · exact absurd (by rw [ht]; rfl) h
    · exact .inl ⟨own, rfl⟩
  | close => exact .inr (.inl rfl)
  | reset => exact .inr (.inr rfl)
  | _ => exact absurd (by simp [effectOf, apply_ite State.connected, cancelAssembler]) h

theorem effectOf_waitingForAck_writer {i : Instr} {s : State} (h : (effectOf i s).waitingForAck ≠ s.waitingForAck) :
    (∃ b, i = .asmAck b) ∨ (∃ f, i = .tickAcked f) ∨ (∃ f, i = .tickRetry f) ∨ (∃ f, i = .tickTxfail .command f) ∨
      (∃ own, i = .connect own .ok) ∨ i = .reset := by
  cases i with
  | asmAck b => exact .inl ⟨b, rfl⟩
  | tickAcked f => exact .inr (.inl ⟨f, rfl⟩)
  | tickRetry f => exact .inr (.inr (.inl ⟨f, rfl⟩))
  | tickTxfail k f =>
    cases k with
    | poll => exact absurd (by simp [effectOf]) h
    | command => exact .inr (.inr (.inr (.inl ⟨f, rfl⟩)))
  | connect own o =>
    obtain ⟨r, ht⟩ | ⟨rfl, -⟩ := effectOf_connect_cases own o s
    · exact absurd (by rw [ht]; rfl) h
    · exact .inr (.inr (.inr (.inr (.inl ⟨own, rfl⟩))))
  | reset => exact .inr (.inr (.inr (.inr (.inr rfl))))
  | _ => exact absurd (by simp [effectOf, apply_ite State.waitingForAck, cancelAssembler]) h

theorem effectOf_suspended_writer {i : Instr} {s : State} (h : (effectOf i s).suspended ≠ s.suspended) :
    (∃ f, i = .clsSuspend f) ∨ (∃ f, i = .clsResume f) ∨ (∃ b, i = .asmLast b) ∨
      (∃ own, i = .connect own .ok) ∨ i = .reset := by
  cases i with
  | clsSuspend f => exact .inl ⟨f, rfl⟩
  | clsResume f => exact .inr (.inl ⟨f, rfl⟩)
  | asmLast b => exact .inr (.inr (.inl ⟨b, rfl⟩))
  | connect own o =>
    obtain ⟨r, ht⟩ | ⟨rfl, -⟩ := effectOf_connect_cases own o s
    · exact absurd (by rw [ht]; rfl) h
    · exact .inr (.inr (.inr (.inl ⟨own, rfl⟩)))
  | reset => exact .inr (.inr (.inr (.inr rfl)))
  | _ => exact absurd (by simp [effectOf, apply_ite State.suspended, cancelAssembler]) h

/-- `ackValid` and `ackByte` are one register of R15, written together. -/
theorem effectOf_ack_writer {i : Instr} {s : State}
    (h : (effectOf i s).ackValid ≠ s.ackValid ∨ (effectOf i s).ackByte ≠ s.ackByte) :
    (∃ b, i = .asmAck b) ∨ (∃ own, i = .connect own .ok) ∨ i = .reset := by
  rw [← not_and_or] at h
  cases i with
  | asmAck b => exact .inl ⟨b, rfl⟩
  | connect own o =>
    obtain ⟨r, ht⟩ | ⟨rfl, -⟩ := effectOf_connect_cases own o s
    · exact absurd (by rw [ht]; exact ⟨rfl, rfl⟩) h
    · exact .inr (.inl ⟨own, rfl⟩)
  | reset => exact .inr (.inr rfl)
  | _ => exact absurd (by simp [effectOf, apply_ite State.ackValid, apply_ite State.ackByte, cancelAssembler]) h

theorem effectOf_ownAddr_writer {i : Instr} {s : State} (h : (effectOf i s).ownAddr ≠ s.ownAddr) :
    (∃ own, i = .connect own .ok) ∨ i = .reset := by
  cases i with
  | connect own o =>
    obtain ⟨r, ht⟩ | ⟨rfl, -⟩ := effectOf_connect_cases own o s
    · exact absurd (by rw [ht]; rfl) h
    · exact .inl ⟨own, rfl⟩
  | reset => exact .inr rfl
  | _ => exact absurd (by simp [effectOf, apply_ite State.ownAddr, cancelAssembler]) h

end Sys2Proof.Machine
end

section
/-! SUPPORT. The invariant of R25, kept part by part: the receive queue, the send queue, the frame register, the
listener set. -/

namespace Sys2Proof.Machine

/-- The part of R25 about the send queue, of a queue under given parameters. -/
structure TxqSound (p : Params) (q : List Item) : Prop where
  cap : ∀ c ∈ p.txqCap, q.length ≤ c
  retries_le : ∀ it ∈ q, it.retries ≤ p.retryN
  poll_fresh : ∀ it ∈ q, it.kind = .poll → it.retries = p.retryN
  behind_fresh : ∀ it ∈ q.tail, it.retries = p.retryN

theorem State.Inv.txqSound {s : State} (h : s.Inv) : TxqSound s.params s.txq :=
  ⟨h.txq_cap, h.retries_le, h.poll_fresh, h.behind_fresh⟩

namespace TxqSound

theorem nil (p : Params) : TxqSound p [] where
  cap := by simp
  retries_le := by simp
  poll_fresh := by simp
  behind_fresh := by simp

theorem tail {p : Params} {q : List Item} (h : TxqSound p q) : TxqSound p q.tail where
  cap c hc := le_trans (by simp) (h.cap c hc)
  retries_le it hit := h.retries_le it (List.mem_of_mem_tail hit)
  poll_fresh it hit := h.poll_fresh it (List.mem_of_mem_tail hit)
  behind_fresh it hit := h.behind_fresh it (List.mem_of_mem_tail hit)

/-- An item queued with the full budget is fresh wherever it stands (R151, R152). -/
theorem append_newItem {s : State} (h : TxqSound s.params s.txq) (room : s.txFull = false) (k : Kind) (f : Frame) :
    TxqSound s.params (s.txq ++ [newItem k f s]) where
  cap c hc := by simpa using txFull_eq_false.1 room c hc
  retries_le := List.forall_mem_append.2 ⟨h.retries_le, by simp [newItem]⟩
  poll_fresh := List.forall_mem_append.2 ⟨h.poll_fresh, by simp [newItem]⟩
  behind_fresh := by
    cases hq : s.txq with
    | nil => simp
    | cons it q => exact List.forall_mem_append.2 ⟨by simpa [hq] using h.behind_fresh, by simp [newItem]⟩

/-- A command at the head may lose retries: nothing asks it to be fresh (R19, R157). -/
theorem retry_head {p : Params} {f : Frame} {r : Nat} {q : List Item}
    (h : TxqSound p (⟨.command, f, r + 1⟩ :: q)) : TxqSound p (⟨.command, f, r⟩ :: q) where
  cap := h.cap
  retries_le := by
    obtain ⟨hr, hq⟩ := List.forall_mem_cons.1 h.retries_le
    exact List.forall_mem_cons.2 ⟨le_trans (Nat.le_succ r) hr, hq⟩
  poll_fresh := List.forall_mem_cons.2 ⟨nofun, (List.forall_mem_cons.1 h.poll_fresh).2⟩
  behind_fresh := h.behind_fresh

end TxqSound

theorem TxqWrite.sound {s : State} {i : Instr} {q : List Item} (h : TxqWrite s i q) (hs : s.Inv) :
    TxqSound s.params q := by
  cases h with
  | kept h => exact h ▸ hs.txqSound
  | queuedPoll f room => exact hs.txqSound.append_newItem room .poll f
  | queuedCommand f room => exact hs.txqSound.append_newItem room .command f
  | headDone => exact hs.txqSound.tail
  | headRetried h => exact (h ▸ hs.txqSound).retry_head
  | cleared => exact .nil _

theorem RxqWrite.length_le {s : State} {i : Instr} {q : List Byte} (h : RxqWrite s i q) (hs : s.Inv) :
    q.length ≤ s.params.rxqCap := by
  cases h with
  | kept h => exact h ▸ hs.rxq_cap
  | queued b room => simpa using rxFull_eq_false.1 room
  | overflowed | cleared => exact Nat.zero_le _
  | taken => exact le_trans (by simp) hs.rxq_cap

/-- Filling a position other than the first leaves the first byte of FR (R114). -/
theorem frame_set_sync {i : Fin Config.frameLen} (h : i ≠ 0) (f : Frame) (v : Byte) : (f.set i v).sync = f.sync :=
  f.get_set_other i 0 v h

theorem FrameWrite.begun_sync {s : State} {i : Instr} {f : Frame} {n : Fin Config.frameLen}
    (h : FrameWrite s i f n) (hs : s.Inv) (hn : n ≠ 0) : f.sync = Config.sync := by
  cases h with
  | kept hf hm => exact hf ▸ hs.begun_sync (hm ▸ hn)
  | begun => rfl
  | filled b h => exact (frame_set_sync h s.fr b).trans (hs.begun_sync h)
  | completed | cancelled | restarted => exact absurd rfl hn

theorem effectOf_listeners_rising {i : Instr} {s : State} (h : s.listeners.Pairwise (· < ·)) :
    (effectOf i s).listeners.Pairwise (· < ·) := by
  obtain ht | ⟨l, -, ht⟩ | ⟨l, -, ht⟩ | ⟨-, ht⟩ := effectOf_listeners i s <;> rw [ht]
  · exact h
  · exact insertListener_rising h
  · exact eraseListener_rising h
  · exact .nil

theorem exec_keeps_inv {i : Instr} {s t : State} (hs : s.Inv) (h : exec i s = .next t) : t.Inv := by
  obtain ⟨hen, rfl⟩ := exec_eq_next.1 h
  have hp := effectOf_params i s
  have htx := (effectOf_txqWrite hen).sound hs
  rw [← hp] at htx
  exact {
    params_wf := hp ▸ hs.params_wf
    rxq_cap := hp ▸ (effectOf_rxqWrite hen).length_le hs
    txq_cap := htx.cap
    retries_le := htx.retries_le
    poll_fresh := htx.poll_fresh
    behind_fresh := htx.behind_fresh
    begun_sync := (effectOf_frameWrite hen).begun_sync hs
    listeners_rising := effectOf_listeners_rising hs.listeners_rising }

/-- Taking a stimulus from the script writes nothing the invariant reads (log 1). -/
theorem dropStimulus_inv {s : State} (h : s.Inv) : (dropStimulus s).Inv :=
  ⟨h.params_wf, h.rxq_cap, h.txq_cap, h.retries_le, h.poll_fresh, h.behind_fresh, h.begun_sync, h.listeners_rising⟩

end Sys2Proof.Machine
end

section
/-! SUPPORT. The statements of family 10_state.md, settled. -/

namespace Sys2Proof.Machine

/-- Settles O40: every operation keeps each part of R25, by the ways it may write the element concerned. -/
theorem soundStatesStaySound : Obligations.SoundStatesStaySound := by
  intro s t hs h
  obtain rfl | ⟨i, hi⟩ := step_next h
  · exact dropStimulus_inv hs
  · exact exec_keeps_inv (dropStimulus_inv hs) hi

/-- Settles O41, register by register. -/
theorem flagAndRegisterWriters : Obligations.FlagAndRegisterWriters := by
  intro i s t h
  obtain ⟨-, rfl⟩ := exec_eq_next.1 h
  refine ⟨effectOf_connected_writer, effectOf_waitingForAck_writer, effectOf_suspended_writer, effectOf_ack_writer, effectOf_ownAddr_writer,
    fun hl => ?_, effectOf_params i s⟩
  obtain ht | ⟨l, hi, -⟩ | ⟨l, hi, -⟩ | ⟨hi, -⟩ := effectOf_listeners i s
  · exact absurd ht hl
  · exact .inl ⟨l, hi⟩
  · exact .inr (.inl ⟨l, hi⟩)
  · exact .inr (.inr hi)

/-- Settles O42, by the ways each element may be written. -/
theorem queueAndFrameWriters : Obligations.QueueAndFrameWriters := by
  intro i s t h
  obtain ⟨hen, rfl⟩ := exec_eq_next.1 h
  exact ⟨(effectOf_frameWrite hen).fr_writer, (effectOf_frameWrite hen).fidx_writer, (effectOf_rxqWrite hen).writer,
    (effectOf_txqWrite hen).writer⟩

/-- Settles O44: the event appended is the one the operation reports, and three kinds of operation report a
telegram. -/
theorem eachTelegramHasItsCause : Obligations.EachTelegramHasItsCause := by
  intro i s t tag payload h hevt
  obtain ⟨-, rfl⟩ := exec_eq_next.1 h
  obtain ⟨b, v, rfl, hv⟩ | ⟨f, v, rfl, hv⟩ | ⟨f, rfl, rfl, rfl⟩ := eventOf_eq_telegram (eventOf_of_evt_append hevt)
  · have hb : ∃ b', Instr.asmLast b = .asmLast b' := ⟨b, rfl⟩
    cases v with
    | crcError | ok | notForUs => cases hv; exact .inl ⟨hb, rfl⟩
    | suspend | resume => cases hv; exact ⟨.inl hb, rfl⟩
  · cases v with
    | crcError | ok | notForUs => cases hv; exact .inr ⟨f, rfl, rfl⟩
    | suspend | resume => cases hv; exact ⟨.inr ⟨f, rfl⟩, rfl⟩
  · exact ⟨f, rfl, rfl⟩

/-- Settles O45: a trace grows by the list of the at most one entry an operation has for it. -/
theorem tracesGrowByAtMostOne : Obligations.TracesGrowByAtMostOne := by
  intro s t h
  obtain rfl | ⟨i, hi⟩ := step_next h
  · exact ⟨.inl rfl, .inl rfl, .inl rfl⟩
  obtain ⟨-, rfl⟩ := exec_eq_next.1 hi
  refine ⟨?_, ?_, ?_⟩
  · rw [effectOf_evt]
    cases eventOf i (dropStimulus s) with
    | none => exact .inl (List.append_nil _)
    | some e => exact .inr ⟨e, rfl⟩
  · rw [effectOf_txw]; exact append_toList_eq_or s.txw _
  · rw [effectOf_ret]; exact append_toList_eq_or s.ret _

/-- Settles O39: nothing is queued, begun or registered, and the default capacities are in range. -/
theorem stateAfterResetIsSound : Obligations.StateAfterResetIsSound :=
  have htx := TxqSound.nil Config.params
  { params_wf := ⟨by decide, by simp [State.reset, Config.params]⟩
    rxq_cap := Nat.zero_le _
    txq_cap := htx.cap
    retries_le := htx.retries_le
    poll_fresh := htx.poll_fresh
    behind_fresh := htx.behind_fresh
    begun_sync := fun h => absurd rfl h
    listeners_rising := .nil }

end Sys2Proof.Machine
end

section
/-! SUPPORT. Proofs, family 20_memory.md: the packed forms. A frame, an item word and an event record are read back
from their bits. -/

namespace Sys2Proof

/-- A byte is cut out by dropping the bytes behind it one at a time, then keeping the last one. The two library rules
are given at the widths of the packing, because its type is `BitVec 48` and not a sum of widths. -/
@[simp] theorem Frame.unpack_pack (f : Frame) : Frame.unpack f.pack = f := by
  have above (v : Nat) := @BitVec.extractLsb'_append_eq_of_le v 8
  have last (v : Nat) := @BitVec.extractLsb'_append_eq_right v 8
  simp [Frame.unpack, Frame.pack, above 40, above 32, above 24, above 16, above 8, last 40, last 32, last 24, last 16,
    last 8]

/-- Six adjacent byte extracts join to the whole word, from the top byte down. -/
@[simp] theorem Frame.pack_unpack (v : BitVec 48) : (Frame.unpack v).pack = v := by
  simp only [Frame.unpack, Frame.pack, BitVec.extractLsb'_append_extractLsb'_eq_extractLsb', BitVec.extractLsb'_eq_self]

/-- `kind` is bit 48, so it counts 2 ^ 48 above the frame (R72). -/
theorem packItem_toNat (k : Kind) (f : Frame) :
    (packItem k f).toNat = k.code.toNat * 2 ^ 48 + f.pack.toNat := by
  rw [packItem, BitVec.toNat_append, ← Nat.shiftLeft_add_eq_or_of_lt f.pack.isLt, Nat.shiftLeft_eq]

theorem packItem_div (k : Kind) (f : Frame) : (packItem k f).toNat / 2 ^ 48 = k.code.toNat := by
  have hf := f.pack.isLt
  rw [packItem_toNat]
  omega

theorem tableFrame_packItem (k : Kind) (f : Frame) : tableFrame (packItem k f).toNat = f := by
  have hw : BitVec.ofNat 48 (packItem k f).toNat = f.pack := by
    apply BitVec.eq_of_toNat_eq
    have hf := f.pack.isLt
    rw [BitVec.toNat_ofNat, packItem_toNat]
    omega
  rw [tableFrame, hw, Frame.unpack_pack]

/-- The 49-bit word of an item is read as the SEND call of its kind (R72, R83; log 4). -/
theorem decodeTableWord_packItem (k : Kind) (f : Frame) :
    decodeTableWord 49 (packItem k f).toNat = some (decodeSend k f) := by
  have hd : decode .send huntView (BitVec.ofNat 8 k.code.toNat :: f.bytes) = .op (decodeSend k f) := by
    have hunit : BitVec.ofNat 8 k.code.toNat :: f.bytes = itemBytes k f := by cases k <;> rfl
    rw [hunit, decode, unitItem_itemBytes]
  rw [decodeTableWord, if_neg (by omega), if_neg (by omega), if_pos ⟨.inl rfl, (packItem k f).isLt⟩, packItem_div,
    tableFrame_packItem, hd, Decoded.toOption]

namespace Machine

@[simp] theorem Tag.ofCode_code (tag : Tag) : Tag.ofCode tag.code = tag := by
  cases tag <;> rfl

/-- An error's code and datum give it back, the kind of a line error from bits 7..0 (R77, log 19). -/
@[simp] theorem errOf_code_info (e : Err) : errOf e.code e.info = some e := by
  cases e with
  | rxqOverflow | rxIo | cancelled => rfl
  | ackNotReceived f | txWriteFailed f | txqFull f => simp [errOf, Err.code, Err.info]
  | lineError k => exact congrArg (some ∘ Err.lineError) BitVec.extractLsb'_append_eq_right

theorem event_record (e : Event) : e.record.event = some e := by
  cases e with
  | telegram tag payload =>
    have hp : (payload.map Frame.pack).map Frame.unpack = payload := by cases payload <;> simp
    simp [Event.record, EventRecord.event, hp]
  | error e => simp [Event.record, EventRecord.event]

/-- Settles O36: each of the three packings has its reading back. -/
theorem packedFormsReadBack : Obligations.PackedFormsReadBack :=
  ⟨Frame.unpack_pack, Frame.pack_unpack, decodeTableWord_packItem .poll, decodeTableWord_packItem .command,
    event_record⟩

end Machine

end Sys2Proof
end

section
/-! SUPPORT. Proofs, family 20_memory.md: the two paths read nothing of each other's queue. An operation of the
assembler's interface is selected by the receive path alone, reports by it alone and changes it by it alone; likewise a
tick and the send path. -/

namespace Sys2Proof.Machine

/-- An operation appends its event to EVT (R21, R205). -/
theorem effectOf_events (i : Instr) (s : State) : (effectOf i s).events = s.events ++ (eventOf i s).toList := by
  rw [State.events, effectOf_evt]
  cases eventOf i s <;> simp [State.events]

/-- Two states in which an operation is equally selected and reports the same event take it together, to states
related as its effects are. -/
theorem exec_agrees {R : State → State → Prop} {i : Instr} {s t s' : State} (hen : s.enables i = t.enables i)
    (hev : eventOf i s = eventOf i t) (heff : R (effectOf i s) (effectOf i t)) (h : exec i s = .next s') :
    ∃ t' es, exec i t = .next t' ∧ R s' t' ∧ s'.events = s.events ++ es ∧ t'.events = t.events ++ es := by
  obtain ⟨hs, rfl⟩ := exec_eq_next.1 h
  exact ⟨effectOf i t, _, exec_eq_next.2 ⟨hen ▸ hs, rfl⟩, heff, effectOf_events i s, hev ▸ effectOf_events i t⟩

/-! ## The receive path -/

theorem State.sameReceivePath.enables_eq {s t : State} (h : s.sameReceivePath t) {i : Instr}
    (hi : i.onPort .asm = true) : s.enables i = t.enables i := by
  cases i with
  | asmSync | asmAck | asmDrop | asmFill | asmLast =>
    simp [State.enables, Instr.condition, State.holdsOperand, State.rxHeadIs, h.connected, h.waitingForAck, h.fidx,
      h.rxq]
  | _ => cases hi

theorem State.sameReceivePath.eventOf_eq {s t : State} (h : s.sameReceivePath t) {i : Instr}
    (hi : i.onPort .asm = true) : eventOf i s = eventOf i t := by
  cases i with
  | asmSync | asmAck | asmDrop | asmFill => rfl
  | asmLast b => simp [eventOf, h.fr, h.params, h.ownAddr]
  | _ => cases hi

theorem State.sameReceivePath.effectOf {s t : State} (h : s.sameReceivePath t) {i : Instr}
    (hi : i.onPort .asm = true) : (effectOf i s).sameReceivePath (effectOf i t) := by
  cases i with
  | asmSync | asmAck | asmDrop | asmFill | asmLast =>
    constructor <;>
      simp [Machine.effectOf, h.connected, h.waitingForAck, h.ackValid, h.ackByte, h.ownAddr, h.fr, h.fidx, h.rxq,
        h.params]
  | _ => cases hi

/-- Settles O57, by the three rules of the receive path. -/
theorem receivePathIgnoresTheSendQueue : Obligations.ReceivePathIgnoresTheSendQueue := by
  intro b i s t s' hi h hs
  have hp : i.onPort .asm = true := by obtain rfl | rfl | rfl | rfl | rfl := hi <;> rfl
  exact exec_agrees (h.enables_eq hp) (h.eventOf_eq hp) (h.effectOf hp) hs

/-! ## The send path -/

/-- The operation a tick runs (R82, R153). -/
def tickOp (w : Draw) (s : State) : Instr :=
  match s.txq with
  | [] => .tickNop
  | it :: _ => if s.view.tickIdle then .tickNop else decodeItem w s.view it.kind it.bytes

theorem tickOp_nil {s : State} (w : Draw) (h : s.txq = []) : tickOp w s = .tickNop := by
  rw [tickOp, h]

theorem tickOp_cons {s : State} {it : Item} {q : List Item} (w : Draw) (h : s.txq = it :: q) :
    tickOp w s = if s.view.tickIdle then .tickNop else decodeItem w s.view it.kind it.bytes := by
  rw [tickOp, h]

theorem takeStimulus_tick_eq (w : Draw) (s : State) : takeStimulus (.tick w) s = exec (tickOp w s) s := by
  cases hq : s.txq with
  | nil =>
    have hidle : s.view.tickIdle = true := by simp [View.tickIdle, hq]
    rw [takeStimulus_tick_idle hidle, tickOp_nil w hq]
  | cons it q =>
    rw [tickOp_cons w hq]
    cases hidle : s.view.tickIdle with
    | true => exact takeStimulus_tick_idle hidle
    | false => exact takeStimulus_tick hidle hq

theorem decodeItem_onPort (w : Draw) (v : View) (k : Kind) (f : Frame) :
    (decodeItem w v k f).onPort (.tick w) = true := by
  cases k with
  | poll => cases w <;> rfl
  | command => cases w <;> (unfold decodeItem; split_ifs <;> rfl)

theorem tickOp_onPort (w : Draw) (s : State) : (tickOp w s).onPort (.tick w) = true := by
  cases hq : s.txq with
  | nil => rw [tickOp_nil w hq]; rfl
  | cons it q =>
    rw [tickOp_cons w hq]
    split
    · rfl
    · exact decodeItem_onPort ..

theorem State.sameSendPath.headRetries {s t : State} (h : s.sameSendPath t) : s.headRetries = t.headRetries := by
  rw [State.headRetries, h.txq, State.headRetries]

theorem State.sameSendPath.retriesLeft {s t : State} (h : s.sameSendPath t) :
    decide (0 < s.view.headRetries) = decide (0 < t.view.headRetries) := by
  rw [view_headRetries, h.headRetries, view_headRetries]

theorem State.sameSendPath.txHeadIs {s t : State} (h : s.sameSendPath t) (k : Kind) (f : Frame) :
    s.txHeadIs k f = t.txHeadIs k f := by
  rw [State.txHeadIs, h.txq, State.txHeadIs]

theorem State.sameSendPath.tickIdle {s t : State} (h : s.sameSendPath t) :
    s.view.tickIdle = t.view.tickIdle := by
  simp [View.tickIdle, h.connected, h.suspended, h.txq]

theorem State.sameSendPath.ackMatches {s t : State} (h : s.sameSendPath t) (f : Frame) :
    s.view.ackMatches f = t.view.ackMatches f := by
  simp [View.ackMatches, h.ackValid, h.ackByte]

theorem State.sameSendPath.decodeItem_eq {s t : State} (h : s.sameSendPath t) (w : Draw) (k : Kind) (f : Frame) :
    decodeItem w s.view k f = decodeItem w t.view k f := by
  unfold decodeItem
  rw [view_headRetries, h.headRetries, h.ackMatches, view_headRetries]

theorem State.sameSendPath.tickOp_eq {s t : State} (h : s.sameSendPath t) (w : Draw) : tickOp w s = tickOp w t := by
  cases hq : t.txq with
  | nil => rw [tickOp_nil w hq, tickOp_nil w (h.txq.trans hq)]
  | cons it q => rw [tickOp_cons w hq, tickOp_cons w (h.txq.trans hq), h.tickIdle, h.decodeItem_eq]

theorem State.sameSendPath.enables_eq {s t : State} (h : s.sameSendPath t) {w : Draw} {i : Instr}
    (hi : i.onPort (.tick w) = true) : s.enables i = t.enables i := by
  cases i with
  | tickNop => exact congrArg (· && true) h.tickIdle
  | tickPoll | tickExhaust =>
    simp [State.enables, Instr.condition, State.holdsOperand, h.tickIdle, h.headRetries, h.txHeadIs]
  | tickAcked | tickRetry =>
    simp only [State.enables, Instr.condition, State.holdsOperand, h.tickIdle, h.retriesLeft, h.ackMatches, h.txHeadIs]
  | tickTxfail k f =>
    cases k <;>
      simp only [State.enables, Instr.condition, State.holdsOperand, h.tickIdle, h.retriesLeft, h.ackMatches, h.txHeadIs]
  | _ => cases hi

theorem eventOf_tick_eq (s t : State) {w : Draw} {i : Instr} (hi : i.onPort (.tick w) = true) :
    eventOf i s = eventOf i t := by
  cases i with
  | tickNop | tickPoll | tickAcked | tickRetry | tickExhaust | tickTxfail => rfl
  | _ => cases hi

theorem State.sameSendPath.effectOf {s t : State} (h : s.sameSendPath t) {w : Draw} {i : Instr}
    (hi : i.onPort (.tick w) = true) : (effectOf i s).sameSendPath (effectOf i t) := by
  cases i with
  | tickNop => exact h
  | tickPoll | tickAcked | tickRetry | tickExhaust | tickTxfail =>
    constructor <;>
      simp [Machine.effectOf, h.connected, h.waitingForAck, h.suspended, h.ackValid, h.ackByte, h.txq, h.txw, h.params,
        h.headRetries]
  | _ => cases hi

/-- Settles O58: the two states run the same operation, and it obeys the three rules of the send path. -/
theorem tickIgnoresTheReceivePath : Obligations.TickIgnoresTheReceivePath := by
  intro w s t s' h hs
  have hp := tickOp_onPort w t
  rw [takeStimulus_tick_eq, h.tickOp_eq] at hs
  rw [takeStimulus_tick_eq]
  exact exec_agrees (h.enables_eq hp) (eventOf_tick_eq s t hp) (h.effectOf hp) hs

end Sys2Proof.Machine
end

section
/-! SUPPORT. Proofs, family 20_memory.md: runs. A step is the decoded operation; k ticks drain k polls; the assembler,
left alone, consumes the receive queue and keeps the telegrams reported and still to come. -/

namespace Sys2Proof.Machine

/-- A step whose stimulus fetches a unit that decodes runs the operation decoded (R50). -/
theorem takeStimulus_of_decode {e : Stimulus} {s : State} {p : Port} {u : List Byte} {i : Instr}
    (hf : fetch e s = some (p, u)) (hd : decode p s.view u = .op i) : takeStimulus e s = exec i s := by
  simp only [takeStimulus, hf, hd]

/-- A stimulus that fetches nothing changes nothing (R110, log 14). -/
theorem takeStimulus_of_wait {e : Stimulus} {s : State} (hf : fetch e s = none) : takeStimulus e s = .next s := by
  simp only [takeStimulus, hf]

/-- With no stimulus left, the assembler's own step is taken (log 2). -/
theorem step_of_no_script {s : State} (h : s.script = []) : step s = takeStimulus .asm s := by
  have hd : dropStimulus s = s := by rw [dropStimulus, h, List.tail_nil, ← h]
  rw [step, nextStimulus, h, hd]

/-- Settles O33, from what taking a stimulus does in each case. -/
theorem stepRunsTheDecodedOperation : Obligations.StepRunsTheDecodedOperation := by
  refine ⟨fun s e es hs => ⟨fun p u i hf hd => ?_, fun hf => ?_⟩, fun s hs t ht => ?_⟩
  · exact (step_of_script hs).trans (takeStimulus_of_decode hf hd)
  · exact (step_of_script hs).trans (takeStimulus_of_wait hf)
  · subst ht
    rw [step_of_no_script hs, step_of_script rfl, ← hs]

/-! ## Polls -/

/-- A tick whose write succeeds, on a poll at the head of TXQ (R155). -/
theorem takeStimulus_tick_poll {s : State} {f : Frame} {r : Nat} {q : List Item} (hc : s.connected = true)
    (hs : s.suspended = false) (hq : s.txq = ⟨.poll, f, r⟩ :: q) :
    takeStimulus (.tick .ok) s = .next { s with txq := q, txw := s.txw ++ [⟨f, .ok⟩] } := by
  have hidle : s.view.tickIdle = false := by simp [View.tickIdle, hc, hs, hq]
  have hen : s.enables (.tickPoll f) = true := by
    simp [State.enables, Instr.condition, hidle, State.holdsOperand, txHeadIs_iff, hq]
  rw [takeStimulus_tick hidle hq, decodeItem]
  exact exec_eq_next.2 ⟨hen, by simp [effectOf, hq]⟩

/-- Settles O52, by induction on the polls: each tick writes the first one. -/
theorem pollsDrainInOrder : Obligations.PollsDrainInOrder := by
  intro fs
  induction fs with
  | nil =>
    rintro s q more _ _ rfl rfl
    simp [run_zero]
  | cons x fs ih =>
    intro s q more hc hs hq hscript
    have hstep := (step_of_script hscript).trans (takeStimulus_tick_poll hc hs hq)
    rw [List.length_cons, run_succ _ _ _ hstep, ih _ q more (by exact hc) (by exact hs) rfl rfl]
    simp

/-! ## Hunt and fill -/

theorem framesOf_sync_short {bs : List Byte} (h : bs.length < 5) : framesOf (Config.sync :: bs) = [] := by
  match bs, h with
  | [], _ | [_], _ | [_, _], _ | [_, _, _], _ | [_, _, _, _], _ => rfl

theorem framesOf_bytes_append {f : Frame} (h : f.sync = Config.sync) (bs : List Byte) :
    framesOf (f.bytes ++ bs) = f :: framesOf bs := by
  rw [framesOf.eq_def]
  exact if_pos h

theorem framesOf_of_ne_sync {b : Byte} (h : b ≠ Config.sync) (bs : List Byte) :
    framesOf (b :: bs) = framesOf bs := by
  rw [framesOf.eq_def]
  exact if_neg h

/-- Storing the byte at FIDX makes it the last of the bytes begun (R111, R114). -/
theorem take_bytes_set {n : Fin Config.frameLen} (h : n ≠ 5) (f : Frame) (b : Byte) :
    (f.set n b).bytes.take (n + 1 : Fin Config.frameLen) = f.bytes.take n ++ [b] := by
  match n, h with
  | 0, _ | 1, _ | 2, _ | 3, _ | 4, _ => rfl
  | 5, h => exact absurd rfl h

/-- The bytes the assembler has not yet reported on: those begun in FR, none in hunt state (R17), then RXQ. -/
def State.stream (s : State) : List Byte := s.fr.bytes.take s.fidx ++ s.rxq

/-- The events reported, and behind them the telegrams of the frames that the bytes held will give. -/
def State.eventsToCome (s : State) : List Event := s.events ++ telegramsOf s.params s.ownAddr s.stream

/-- A connected engine with no stimulus left, in which a begun frame starts with SYNC (R25). -/
structure State.leftAlone (s : State) : Prop where
  connected : s.connected = true
  script : s.script = []
  begun_sync : s.fidx ≠ 0 → s.fr.sync = Config.sync

/-- `t` follows from `s` by the assembler's own steps: what these keep. -/
structure State.receivesTo (s t : State) : Prop where
  leftAlone : t.leftAlone
  txq : t.txq = s.txq
  txw : t.txw = s.txw
  ownAddr : t.ownAddr = s.ownAddr
  eventsToCome : t.eventsToCome = s.eventsToCome

theorem State.receivesTo.trans {s t u : State} (h : s.receivesTo t) (k : t.receivesTo u) : s.receivesTo u :=
  ⟨k.leftAlone, k.txq.trans h.txq, k.txw.trans h.txw, k.ownAddr.trans h.ownAddr, k.eventsToCome.trans h.eventsToCome⟩

/-- The operation the assembler runs on a byte, by the rows of R80. -/
inductive AsmSelects (s : State) : Byte → Instr → Prop
  | begin (hunt : s.fidx = 0) : AsmSelects s Config.sync .asmSync
  | stray {b : Byte} {i : Instr} (hunt : s.fidx = 0) (hb : b ≠ Config.sync) (hi : i = .asmAck b ∨ i = .asmDrop b) :
    AsmSelects s b i
  | fill (b : Byte) (begun : s.fidx ≠ 0) (h : s.fidx ≠ 5) : AsmSelects s b (.asmFill b)
  | last (b : Byte) (h : s.fidx = 5) : AsmSelects s b (.asmLast b)

theorem takeStimulus_asm_selects {s : State} {b : Byte} {rest : List Byte} (hc : s.connected = true)
    (hq : s.rxq = b :: rest) : ∃ i, AsmSelects s b i ∧ takeStimulus .asm s = .next (effectOf i s) := by
  have hb : s.rxHeadIs b = true := rxHeadIs_iff.2 ⟨rest, hq⟩
  have runs {i : Instr} (hd : decodeByte s.view b = .op i) (hcond : i.condition s.view = true)
      (hop : s.holdsOperand i = true) : takeStimulus .asm s = .next (effectOf i s) := by
    rw [takeStimulus_asm hc hq, hd]
    exact exec_eq_next.2 ⟨by rw [State.enables, hcond, hop]; rfl, rfl⟩
  by_cases h0 : s.fidx = 0
  · by_cases hsync : b = Config.sync
    · subst hsync
      exact ⟨_, .begin h0, runs (by simp [decodeByte, hc, h0]) (by simp [Instr.condition, hc, h0]) hb⟩
    · cases hw : s.waitingForAck with
      | true =>
        exact ⟨_, .stray h0 hsync (.inl rfl), runs (by simp [decodeByte, hc, h0, hsync, hw])
          (by simp [Instr.condition, hc, h0, hsync, hw]) hb⟩
      | false =>
        exact ⟨_, .stray h0 hsync (.inr rfl), runs (by simp [decodeByte, hc, h0, hsync, hw])
          (by simp [Instr.condition, hc, h0, hsync, hw]) hb⟩
  · by_cases h5 : s.fidx = 5
    · exact ⟨_, .last b h5, runs (by simp [decodeByte, hc, h5]) (by simp [Instr.condition, hc, h5]) hb⟩
    · exact ⟨_, .fill b h0 h5, runs (by simp [decodeByte, hc, h0, h5]) (by simp [Instr.condition, hc, h0, h5]) hb⟩

section
variable {s : State} {b : Byte} {i : Instr} {rest : List Byte}

theorem AsmSelects.leftAlone (h : AsmSelects s b i) (hs : s.leftAlone) : (effectOf i s).leftAlone := by
  obtain ⟨hc, hscript, hsync⟩ := hs
  cases h with
  | begin => exact ⟨hc, hscript, fun _ => rfl⟩
  | stray _ _ hi => obtain rfl | rfl := hi <;> exact ⟨hc, hscript, hsync⟩
  | fill b begun => exact ⟨hc, hscript, fun _ => (frame_set_sync begun s.fr b).trans (hsync begun)⟩
  | last => exact ⟨hc, hscript, fun h => absurd rfl h⟩

/-- The frames of the bytes held are those the operation reports on, then those of the bytes it leaves. -/
theorem AsmSelects.telegramsOf_stream (h : AsmSelects s b i) (hs : s.leftAlone) (hq : s.rxq = b :: rest) :
    telegramsOf s.params s.ownAddr s.stream =
      (eventOf i s).toList ++ telegramsOf s.params s.ownAddr (effectOf i s).stream := by
  cases h with
  | begin hunt =>
    have hst : (effectOf .asmSync s).stream = s.stream := by
      simp [State.stream, effectOf, hq, hunt, Frame.bytes, Frame.set]
    rw [hst]; rfl
  | stray hunt hb hi =>
    have hst : s.stream = b :: (effectOf i s).stream := by
      obtain rfl | rfl := hi <;> simp [State.stream, effectOf, hq, hunt]
    have hev : eventOf i s = none := by obtain rfl | rfl := hi <;> rfl
    rw [hst, telegramsOf, framesOf_of_ne_sync hb, hev]; rfl
  | fill b begun h5 =>
    have hst : (effectOf (.asmFill b) s).stream = s.stream := by
      simp [State.stream, effectOf, hq, take_bytes_set h5]
    rw [hst]; rfl
  | last b h5 =>
    have hst : s.stream = (s.fr.set 5 b).bytes ++ (effectOf (.asmLast b) s).stream := by
      simp [State.stream, effectOf, hq, h5, Frame.bytes, Frame.set]
    have hsync : (s.fr.set 5 b).sync = Config.sync := hs.begun_sync (by simp [h5])
    rw [hst, telegramsOf, framesOf_bytes_append hsync]; rfl

/-- The assembler takes the head of RXQ and leaves the send path and `ownAddr` (R24, R53). -/
theorem AsmSelects.frame (h : AsmSelects s b i) :
    (effectOf i s).rxq = s.rxq.tail ∧ (effectOf i s).txq = s.txq ∧ (effectOf i s).txw = s.txw ∧
      (effectOf i s).ownAddr = s.ownAddr := by
  cases h with
  | stray _ _ hi => obtain rfl | rfl := hi <;> exact ⟨rfl, rfl, rfl, rfl⟩
  | begin | fill | last => exact ⟨rfl, rfl, rfl, rfl⟩

theorem AsmSelects.receivesTo (h : AsmSelects s b i) (hs : s.leftAlone) (hq : s.rxq = b :: rest) :
    s.receivesTo (effectOf i s) ∧ (effectOf i s).rxq = rest := by
  obtain ⟨hrxq, htxq, htxw, hown⟩ := h.frame
  refine ⟨⟨h.leftAlone hs, htxq, htxw, hown, ?_⟩, by rw [hrxq, hq, List.tail_cons]⟩
  rw [State.eventsToCome, effectOf_events, effectOf_params, hown, List.append_assoc, ← h.telegramsOf_stream hs hq,
    State.eventsToCome]

end

/-- The assembler, left alone, consumes RXQ, a byte a step (R110, log 2). -/
theorem run_receives {s : State} (hs : s.leftAlone) :
    ∃ t, run s.rxq.length s = .next t ∧ t.rxq = [] ∧ s.receivesTo t := by
  induction hq : s.rxq generalizing s with
  | nil => exact ⟨s, run_zero s, hq, hs, rfl, rfl, rfl, rfl⟩
  | cons b rest ih =>
    obtain ⟨i, hi, hstep⟩ := takeStimulus_asm_selects hs.connected hq
    obtain ⟨hto, hrest⟩ := hi.receivesTo hs hq
    obtain ⟨t, hrun, ht, hto'⟩ := ih hto.leftAlone hrest
    exact ⟨t, (run_succ _ _ _ ((step_of_no_script hs.script).trans hstep)).trans hrun, ht, hto.trans hto'⟩

/-- An emptied queue leaves at most five bytes of a begun frame, which report nothing yet (R48). -/
theorem eventsToCome_of_rxq_nil {s : State} (hs : s.leftAlone) (hq : s.rxq = []) : s.eventsToCome = s.events := by
  have hframes : framesOf s.stream = [] := by
    rw [State.stream, hq, List.append_nil]
    by_cases h0 : s.fidx = 0
    · rw [h0]; rfl
    · obtain ⟨n, hn⟩ := Nat.exists_eq_succ_of_ne_zero (Fin.val_ne_zero_iff.2 h0)
      have hn5 : n < 5 := Nat.lt_of_succ_lt_succ (hn ▸ s.fidx.isLt)
      rw [hn, Frame.bytes, List.take_succ_cons, hs.begun_sync h0]
      exact framesOf_sync_short (by simpa using hn5)
  rw [State.eventsToCome, telegramsOf, hframes, List.map_nil, List.append_nil]

/-- Settles O55: the events reported and to come are the same before and behind the run, and behind it none are to
come. -/
theorem receivePathIsHuntAndFill : Obligations.ReceivePathIsHuntAndFill := by
  intro s hc hunt hscript
  obtain ⟨t, hrun, hq, ht⟩ := run_receives (s := s) ⟨hc, hscript, fun h => absurd hunt h⟩
  have hstream : s.stream = s.rxq := by rw [State.stream, hunt]; rfl
  refine ⟨t, hrun, hq, ?_, ht.txq, ht.txw, ht.leftAlone.connected, ht.ownAddr⟩
  rw [← eventsToCome_of_rxq_nil ht.leftAlone hq, ht.eventsToCome, State.eventsToCome, hstream]

end Sys2Proof.Machine
end

section
/-! SUPPORT. Proofs, family 30_encoding.md: the operation map, both ways. Each decoder selects an operation whose row
admits the unit, and a unit that a row admits decodes to that row's operation. -/

namespace Sys2Proof

/-- The row of `i` admits the unit `u` on interface `p` under view `v` (R80 to R83; log 22 for the bytes of an item):
what DecodeEncodeAgree says of a decoded operation. -/
structure Instr.selectedBy (p : Port) (v : View) (u : List Byte) (i : Instr) : Prop where
  onPort : i.onPort p = true
  condition : i.condition v = true
  wf : i.wf = true
  unit : encode i = u ∨ i = .tickNop

theorem decodeArrival_selectedBy (v : View) (b : Byte) : (decodeArrival v b).selectedBy .rx v [b] := by
  unfold decodeArrival
  split
  next h => exact ⟨rfl, h, rfl, .inl rfl⟩
  next h => exact ⟨rfl, by simpa [Instr.condition, imp_iff_not_or] using h, rfl, .inl rfl⟩

/-- The rows of R80, in the order of the tests. -/
theorem decodeByte_selectedBy {v : View} {b : Byte} {i : Instr} (h : decodeByte v b = .op i) :
    i.selectedBy .asm v [b] := by
  unfold decodeByte at h
  split_ifs at h with hc h0 hb hw h5 <;> cases h
  · exact ⟨rfl, by simp_all [Instr.condition], rfl, .inl (by rw [hb]; rfl)⟩
  · exact ⟨rfl, by simp_all [Instr.condition], by simpa [Instr.wf] using hb, .inl rfl⟩
  · exact ⟨rfl, by simp_all [Instr.condition], by simpa [Instr.wf] using hb, .inl rfl⟩
  · exact ⟨rfl, by simp_all [Instr.condition], rfl, .inl rfl⟩
  · exact ⟨rfl, by simp_all [Instr.condition], rfl, .inl rfl⟩

/-- The conditions of the CLS rows are the tests of `Classify`: exactly the verdict's row holds (R81, R131). -/
theorem condition_verdict_op {v : View} {f : Frame} {w : Verdict} :
    (w.op f).condition v = true ↔ classify v.params v.ownAddr f = w := by
  refine ⟨fun h => ?_, fun h => h ▸ Machine.classify_condition v f⟩
  have hv : f.valid = true ↔ checksum f = f.get 5 := by simp [Frame.valid, Frame.get]
  cases w with
  | resume =>
    obtain ⟨⟨hval, hns⟩, hres⟩ : (f.valid = true ∧ f.get Config.ctrlPos ≠ v.params.suspendByte) ∧
        f.get Config.ctrlPos = v.params.resumeByte := by simpa [Verdict.op, Instr.condition] using h
    rw [classify, if_neg (not_not.2 (hv.1 hval)), if_neg hns, if_pos hres]
  | _ => simp_all [Verdict.op, Instr.condition, classify]

/-- A verdict's row admits a frame that begins with SYNC: its checksum test is one of its conditions (R81). -/
theorem wf_verdict_op {v : View} {f : Frame} {w : Verdict} (h : (w.op f).condition v = true) :
    (w.op f).wf = f.classified := by
  cases w <;> simp_all [Verdict.op, Instr.condition, Instr.wf]

theorem decodeFrame_selectedBy {v : View} {f : Frame} {i : Instr} (h : decodeFrame v f = .op i) :
    i.selectedBy .cls v f.bytes := by
  unfold decodeFrame at h
  split_ifs at h with hf
  cases h
  have hcond := Machine.classify_condition v f
  refine ⟨?_, hcond, (wf_verdict_op hcond).trans hf, .inl ?_⟩
  · cases classify v.params v.ownAddr f <;> rfl
  · cases classify v.params v.ownAddr f <;> rfl

section
variable {v : View} {f : Frame}

theorem decodeItem_command_exhausted (h : v.headRetries = 0) (w : Draw) :
    decodeItem w v .command f = .tickExhaust f :=
  if_pos h

theorem decodeItem_command_matched (h : 0 < v.headRetries) (hm : v.ackMatches f = true) (w : Draw) :
    decodeItem w v .command f = .tickAcked f := by
  simp [decodeItem, h.ne', hm]

theorem decodeItem_command_unmatched (h : 0 < v.headRetries) (hm : v.ackMatches f = false) (w : Draw) :
    decodeItem w v .command f = if w = .ok then .tickRetry f else .tickTxfail .command f := by
  cases w <;> simp [decodeItem, h.ne', hm]

/-- The rows of R82 for a tick that has something to do, in the order of the tests. -/
theorem decodeItem_selectedBy (w : Draw) (hidle : v.tickIdle = false) (k : Kind) (f : Frame) :
    (decodeItem w v k f).selectedBy (.tick w) v (itemBytes k f) := by
  cases k with
  | poll => cases w <;> exact ⟨rfl, by simp [decodeItem, Instr.condition, hidle], rfl, .inl rfl⟩
  | command =>
    obtain hr | hr := Nat.eq_zero_or_pos v.headRetries
    · rw [decodeItem_command_exhausted hr]
      exact ⟨rfl, by simp [Instr.condition, hidle, hr], rfl, .inl rfl⟩
    cases hm : v.ackMatches f with
    | true =>
      rw [decodeItem_command_matched hr hm]
      exact ⟨rfl, by simp [Instr.condition, hidle, hr, hm], rfl, .inl rfl⟩
    | false =>
      rw [decodeItem_command_unmatched hr hm]
      cases w <;> exact ⟨rfl, by simp [Instr.condition, hidle, hr, hm], rfl, .inl rfl⟩

end

theorem decodeSend_selectedBy (v : View) (k : Kind) (f : Frame) :
    (decodeSend k f).selectedBy .send v (itemBytes k f) := by
  cases k <;> exact ⟨rfl, rfl, rfl, .inl rfl⟩

/-- A tick with nothing to do looks at no unit (R154). -/
theorem decode_of_tickIdle {v : View} (h : v.tickIdle = true) (w : Draw) (u : List Byte) :
    decode (.tick w) v u = .op .tickNop := by
  simp [decode, h]

theorem decode_itemBytes {v : View} (h : v.tickIdle = false) (w : Draw) (k : Kind) (f : Frame) :
    decode (.tick w) v (itemBytes k f) = .op (decodeItem w v k f) := by
  simp [decode, h, unitItem_itemBytes]

/-- Whatever the unit, the operation decoded is of a row that admits it. -/
theorem decode_selectedBy {p : Port} {v : View} {u : List Byte} {i : Instr} (h : decode p v u = .op i) :
    i.selectedBy p v u := by
  match p, u, h with
  | .rx, [b], h => cases h; exact decodeArrival_selectedBy v b
  | .asm, [b], h => exact decodeByte_selectedBy h
  | .cls, u, h =>
    cases hu : unitFrame u with
    | none => simp [decode, hu] at h
    | some f =>
      obtain rfl := unitFrame_eq_some.1 hu
      exact decodeFrame_selectedBy h
  | .tick w, u, h =>
    cases hidle : v.tickIdle with
    | true =>
      rw [decode_of_tickIdle hidle] at h
      cases h
      exact ⟨rfl, hidle, rfl, .inr rfl⟩
    | false =>
      cases hu : unitItem u with
      | error r => simp [decode, hidle, hu] at h
      | ok kf =>
        obtain rfl := unitItem_eq_ok.1 hu
        rw [decode_itemBytes hidle] at h
        cases h
        exact decodeItem_selectedBy w hidle kf.1 kf.2
  | .send, u, h =>
    cases hu : unitItem u with
    | error r => simp [decode, hu] at h
    | ok kf =>
      obtain rfl := unitItem_eq_ok.1 hu
      obtain rfl : decodeSend kf.1 kf.2 = i := by simpa [decode, hu] using h
      exact decodeSend_selectedBy v kf.1 kf.2
  | .connect o, [panelId], h => cases h; exact ⟨beq_self_eq_true o, rfl, rfl, .inl rfl⟩
  | .ladd l, [], h => cases h; exact ⟨beq_self_eq_true l, rfl, rfl, .inl rfl⟩
  | .lrem l, [], h => cases h; exact ⟨beq_self_eq_true l, rfl, rfl, .inl rfl⟩
  | .rxErr, [k], h => cases h; exact ⟨rfl, rfl, rfl, .inl rfl⟩
  | .rxIo, [], h | .cancel, [], h | .close, [], h | .isconn, [], h | .reset, [], h =>
    cases h; exact ⟨rfl, rfl, rfl, .inl rfl⟩

theorem decodeFrame_of_condition {v : View} {f : Frame} {w : Verdict} (hc : (w.op f).condition v = true)
    (hw : (w.op f).wf = true) : decodeFrame v f = .op (w.op f) := by
  rw [decodeFrame, if_pos ((wf_verdict_op hc).symm.trans hw), condition_verdict_op.1 hc]

/-- The round trip, row by row: an operation whose row holds is read back from its own bits. -/
theorem decode_encode {p : Port} {v : View} {i : Instr} (hp : i.onPort p = true) (hc : i.condition v = true)
    (hw : i.wf = true) : decode p v (encode i) = .op i := by
  match i, p, hp with
  | .rxpush b, .rx, _ =>
    have h : (v.connected && v.rxFull) = false := by
      simpa [Instr.condition, imp_iff_not_or] using hc
    simp [decode, encode, decodeArrival, h]
  | .rxpushOvf b, .rx, _ =>
    have h : (v.connected && v.rxFull) = true := hc
    simp [decode, encode, decodeArrival, h]
  | .rxerr _, .rxErr, _ => rfl
  | .rxioerr, .rxIo, _ => rfl
  | .asmSync, .asm, _ => simp_all [decode, encode, decodeByte, Instr.condition]
  | .asmAck _, .asm, _ | .asmDrop _, .asm, _ | .asmFill _, .asm, _ | .asmLast _, .asm, _ =>
    simp_all [decode, encode, decodeByte, Instr.condition]
  | .asmCancel, .cancel, _ => rfl
  | .clsCrcerr f, .cls, _ => exact decodeFrame_of_condition (w := .crcError) hc hw
  | .clsSuspend f, .cls, _ => exact decodeFrame_of_condition (w := .suspend) hc hw
  | .clsResume f, .cls, _ => exact decodeFrame_of_condition (w := .resume) hc hw
  | .clsOk f, .cls, _ => exact decodeFrame_of_condition (w := .ok) hc hw
  | .clsNfu f, .cls, _ => exact decodeFrame_of_condition (w := .notForUs) hc hw
  | .tickNop, .tick w, _ => exact decode_of_tickIdle hc w _
  | .tickPoll f, .tick .ok, _ =>
    have hidle : v.tickIdle = false := by simpa [Instr.condition] using hc
    exact decode_itemBytes hidle .ok .poll f
  | .tickTxfail .poll f, .tick .fail, _ =>
    have hidle : v.tickIdle = false := by simpa [Instr.condition] using hc
    exact decode_itemBytes hidle .fail .poll f
  | .tickExhaust f, .tick w, _ =>
    obtain ⟨hidle, hr⟩ : v.tickIdle = false ∧ v.headRetries = 0 := by simpa [Instr.condition] using hc
    rw [encode, decode_itemBytes hidle, decodeItem_command_exhausted hr]
  | .tickAcked f, .tick w, _ =>
    obtain ⟨⟨hidle, hr⟩, hm⟩ : (v.tickIdle = false ∧ 0 < v.headRetries) ∧ v.ackMatches f = true := by
      simpa [Instr.condition] using hc
    rw [encode, decode_itemBytes hidle, decodeItem_command_matched hr hm]
  | .tickRetry f, .tick .ok, _ | .tickTxfail .command f, .tick .fail, _ =>
    obtain ⟨⟨hidle, hr⟩, hm⟩ : (v.tickIdle = false ∧ 0 < v.headRetries) ∧ v.ackMatches f = false := by
      simpa [Instr.condition] using hc
    rw [encode, decode_itemBytes hidle, decodeItem_command_unmatched hr hm]
    rfl
  | .sendP _, .send, _ => rfl
  | .sendC _, .send, _ => rfl
  | .connect panelId o, .connect o', hp => cases LawfulBEq.eq_of_beq hp; rfl
  | .close, .close, _ => rfl
  | .isconn, .isconn, _ => rfl
  | .ladd l, .ladd l', hp => cases LawfulBEq.eq_of_beq hp; rfl
  | .lrem l, .lrem l', hp => cases LawfulBEq.eq_of_beq hp; rfl
  | .reset, .reset, _ => rfl

/-- Settles O35: a decoded operation is of a row that admits the unit, and an operation whose row holds is read back
from its bits; TICK.NOP from any. -/
theorem decodeEncodeAgree : Obligations.DecodeEncodeAgree := by
  intro p v u i
  constructor
  · intro h
    obtain ⟨hp, hc, hw, hu⟩ := decode_selectedBy h
    exact ⟨hp, hc, hw, hu⟩
  · rintro ⟨hp, hc, hw, rfl | rfl⟩
    · exact decode_encode hp hc hw
    · match p, hp with
      | .tick w, _ => exact decode_of_tickIdle hc w u

/-- Settles O34: each word is the encoding of its operation, whose row holds under the view. -/
theorem specWordsDecode : Obligations.SpecWordsDecode := by
  refine ⟨fun v hc h0 => ?_, fun v => ?_, fun v => ?_, fun v o => ?_⟩
  · exact decode_encode (i := .asmSync) rfl (by simp [Instr.condition, hc, h0]) rfl
  · exact decode_encode (i := .clsCrcerr ⟨0x01#8, 0x00#8, 0x00#8, 0x10#8, 0x20#8, 0x32#8⟩) rfl rfl rfl
  · exact decode_encode (i := .sendC ⟨0x01#8, 0x22#8, 0x11#8, 0x29#8, 0x03#8, 0x60#8⟩) rfl rfl rfl
  · exact decode_encode (i := .connect 0x22#8 o) (beq_self_eq_true o) rfl rfl

end Sys2Proof
end

section
/-! SUPPORT. Proofs, family 30_encoding.md: selection. A stimulus runs the operation whose row holds (R80, R82, R83);
an operation answers exactly where it is selected, and every step answers. -/

namespace Sys2Proof.Machine

/-- A stimulus that fetches the bits of an operation whose row holds runs that operation. -/
theorem takeStimulus_of_condition {e : Stimulus} {s : State} {p : Port} {i : Instr}
    (hf : fetch e s = some (p, encode i)) (hp : i.onPort p = true) (hc : i.condition s.view = true)
    (hw : i.wf = true) : takeStimulus e s = exec i s :=
  takeStimulus_of_decode hf (decode_encode hp hc hw)

/-- A step takes its stimulus, then runs the operation its unit decodes to (R50). -/
theorem step_of_decode {s : State} {e : Stimulus} {es : List Stimulus} {p : Port} {u : List Byte} {i : Instr}
    (hs : s.script = e :: es) (hf : fetch e { s with script := es } = some (p, u)) (hd : decode p s.view u = .op i) :
    step s = exec i { s with script := es } :=
  (stepRunsTheDecodedOperation.1 s e es hs).1 p u i hf hd

theorem fetch_asm_of_cons {s : State} {b : Byte} {rest : List Byte} (hc : s.connected = true)
    (hq : s.rxq = b :: rest) : fetch .asm s = some (.asm, [b]) := by
  simp [fetch, State.asmEnabled, hc, hq]

theorem fetch_asm_of_not_enabled {s : State} (h : s.asmEnabled = false) : fetch .asm s = none := by
  simp [fetch, h]

theorem asmEnabled_eq_false {s : State} : s.asmEnabled = false ↔ s.connected = false ∨ s.rxq = [] := by
  simp [State.asmEnabled, imp_iff_not_or]

theorem tickIdle_view {s : State} :
    s.view.tickIdle = true ↔ s.connected = false ∨ s.suspended = true ∨ s.txq = [] := by
  simp [View.tickIdle, or_assoc]

/-- Settles O30: at each position the row named is the one whose condition holds (R80). -/
theorem assemblerStepSelection : Obligations.AssemblerStepSelection := by
  intro s es hs
  rw [step_of_script hs]
  refine ⟨fun h => ?_, fun b rest hc hq => ?_⟩
  · exact takeStimulus_of_wait (fetch_asm_of_not_enabled (asmEnabled_eq_false.2 h))
  have hf : fetch .asm { s with script := es } = some (.asm, [b]) := fetch_asm_of_cons hc hq
  refine ⟨fun h0 hb => ?_, fun h0 hb hw => ?_, fun h0 hb hw => ?_, fun h1 h4 => ?_, fun h5 => ?_⟩
  · subst hb
    exact takeStimulus_of_condition hf rfl (by simp [Instr.condition, hc, h0]) rfl
  · exact takeStimulus_of_condition (i := .asmAck b) hf rfl (by simp [Instr.condition, hc, h0, hb, hw])
      (bne_iff_ne.2 hb)
  · exact takeStimulus_of_condition (i := .asmDrop b) hf rfl (by simp [Instr.condition, hc, h0, hb, hw])
      (bne_iff_ne.2 hb)
  · have h0 : s.fidx ≠ 0 := fun h => by simp [h] at h1
    have h5 : s.fidx ≠ 5 := fun h => by simp [h] at h4
    exact takeStimulus_of_condition (i := .asmFill b) hf rfl (by simp [Instr.condition, hc, h0, h5]) rfl
  · exact takeStimulus_of_condition (i := .asmLast b) hf rfl (by simp [Instr.condition, hc, h5]) rfl

/-- A tick of a running engine runs the operation of the head item (R82). -/
theorem takeStimulus_tick_head {s : State} {w : Draw} {k : Kind} {f : Frame} {r : Nat} {q : List Item} {i : Instr}
    (hc : s.connected = true) (hs : s.suspended = false) (hq : s.txq = ⟨k, f, r⟩ :: q)
    (hd : decodeItem w s.view k f = i) : takeStimulus (.tick w) s = exec i s := by
  have hidle : s.view.tickIdle = false := by simp [View.tickIdle, hc, hs, hq]
  rw [takeStimulus_tick hidle hq, hd]

theorem headRetries_of_cons {s : State} {it : Item} {q : List Item} (hq : s.txq = it :: q) :
    s.view.headRetries = it.retries := by
  rw [view_headRetries, State.headRetries, hq]

theorem ackMatches_view {s : State} {f : Frame} :
    s.view.ackMatches f = true ↔ s.ackValid = true ∧ f.cks = s.ackByte := by
  simp [View.ackMatches]

theorem ackMatches_view_eq_false {s : State} {f : Frame} :
    s.view.ackMatches f = false ↔ s.ackValid = false ∨ f.cks ≠ s.ackByte := by
  simp [View.ackMatches, imp_iff_not_or]

/-- Settles O31: with nothing to do the tick is idle; otherwise the head item, its retries, the comparison and the draw
are tested in the order of R82. -/
theorem tickSelection : Obligations.TickSelection := by
  intro s es w hs
  rw [step_of_script hs]
  refine ⟨fun h => takeStimulus_tick_idle (tickIdle_view.2 h), fun f r q hc hsusp => ?_⟩
  have runs {k : Kind} {i : Instr} (hq : s.txq = ⟨k, f, r⟩ :: q)
      (hd : decodeItem w (State.view { s with script := es }) k f = i) :
      takeStimulus (.tick w) { s with script := es } = exec i { s with script := es } :=
    takeStimulus_tick_head hc hsusp hq hd
  have hret {k : Kind} (hq : s.txq = ⟨k, f, r⟩ :: q) : (State.view { s with script := es }).headRetries = r :=
    headRetries_of_cons hq
  refine ⟨?_, ?_, fun hq hr hv hm => ?_, fun hq hr hm hw => ?_, fun hq hr hm hw => ?_, fun hq hr => ?_⟩
  · rintro hq rfl
    exact runs hq rfl
  · rintro hq rfl
    exact runs hq rfl
  · exact runs hq (decodeItem_command_matched ((hret hq).symm ▸ hr) (ackMatches_view.2 ⟨hv, hm⟩) w)
  · subst hw
    exact runs hq (decodeItem_command_unmatched ((hret hq).symm ▸ hr) (ackMatches_view_eq_false.2 hm) .ok)
  · subst hw
    exact runs hq (decodeItem_command_unmatched ((hret hq).symm ▸ hr) (ackMatches_view_eq_false.2 hm) .fail)
  · exact runs hq (decodeItem_command_exhausted ((hret hq).trans hr) w)

theorem exec_of_not_enabled {i : Instr} {s : State} (h : s.enables i = false) :
    exec i s = .refused .notEnabled := by
  cases i with
  | rxerr | rxioerr | asmCancel | sendP | sendC | connect | close | isconn | ladd | lrem | reset => cases h
  | asmLast b => rw [exec, execAsmLast, h]; rfl
  | _ => exact whenEnabled_false h

/-- Settles O37: an operation answers with its effect where it is selected; elsewhere its guard refuses. -/
theorem execRunsExactlyWhenSelected : Obligations.ExecRunsExactlyWhenSelected := fun i s =>
  ⟨fun h => ⟨effectOf i s, exec_eq_next.2 ⟨h, rfl⟩⟩, exec_of_not_enabled⟩

/-- An enabled assembler runs a selected operation; otherwise it waits (R110). -/
theorem takeStimulus_asm_answers (s : State) : ∃ t, takeStimulus .asm s = .next t := by
  cases hen : s.asmEnabled with
  | false => exact ⟨s, takeStimulus_of_wait (fetch_asm_of_not_enabled hen)⟩
  | true =>
    obtain ⟨hc, hq⟩ : s.connected = true ∧ s.rxq ≠ [] := by simpa [State.asmEnabled] using hen
    obtain ⟨b, rest, hq⟩ := List.exists_cons_of_ne_nil hq
    obtain ⟨i, -, h⟩ := takeStimulus_asm_selects hc hq
    exact ⟨effectOf i s, h⟩

/-- The operand of the operation a tick decodes is the head item it was decoded from (R82). -/
theorem holdsOperand_decodeItem (s : State) (w : Draw) (v : View) (k : Kind) (f : Frame) :
    s.holdsOperand (decodeItem w v k f) = s.txHeadIs k f := by
  cases k with
  | poll => cases w <;> rfl
  | command =>
    unfold decodeItem
    split_ifs
    · rfl
    · rfl
    · cases w <;> rfl

theorem takeStimulus_tick_answers (w : Draw) (s : State) : ∃ t, takeStimulus (.tick w) s = .next t := by
  cases hidle : s.view.tickIdle with
  | true =>
    rw [takeStimulus_tick_idle hidle]
    exact ⟨s, exec_eq_next.2 ⟨by simp [State.enables, Instr.condition, hidle, State.holdsOperand], rfl⟩⟩
  | false =>
    have hq : s.txq ≠ [] := fun hq => by simp [View.tickIdle, hq] at hidle
    obtain ⟨⟨k, f, r⟩, q, hq⟩ := List.exists_cons_of_ne_nil hq
    have hen : s.enables (decodeItem w s.view k f) = true := by
      rw [State.enables, (decodeItem_selectedBy w hidle k f).condition, holdsOperand_decodeItem]
      exact txHeadIs_iff.2 ⟨r, q, hq⟩
    rw [takeStimulus_tick hidle hq]
    exact ⟨_, exec_eq_next.2 ⟨hen, rfl⟩⟩

theorem takeStimulus_rxb (b : Byte) (s : State) : takeStimulus (.rxb b) s = exec (decodeArrival s.view b) s := rfl

theorem takeStimulus_rxb_answers (b : Byte) (s : State) : ∃ t, takeStimulus (.rxb b) s = .next t := by
  have ho : s.holdsOperand (decodeArrival s.view b) = true := by unfold decodeArrival; split <;> rfl
  have hen : s.enables (decodeArrival s.view b) = true := by
    rw [State.enables, (decodeArrival_selectedBy s.view b).condition, ho]; rfl
  rw [takeStimulus_rxb]
  exact ⟨_, exec_eq_next.2 ⟨hen, rfl⟩⟩

theorem takeStimulus_answers (e : Stimulus) (s : State) : ∃ t, takeStimulus e s = .next t := by
  cases e with
  | rxb b => exact takeStimulus_rxb_answers b s
  | asm => exact takeStimulus_asm_answers s
  | tick w => exact takeStimulus_tick_answers w s
  | _ => exact ⟨_, (takeStimulus_of_decode rfl rfl).trans (exec_eq_next.2 ⟨rfl, rfl⟩)⟩

/-- Settles O38: a step takes one stimulus, and taking any stimulus answers. -/
theorem nothingStopsTheBlock : Obligations.NothingStopsTheBlock := fun s =>
  takeStimulus_answers (nextStimulus s) (dropStimulus s)

/-- Settles O32: a received byte by the test of fullness; every other event by its name alone (R83). -/
theorem interfaceEventSelection : Obligations.InterfaceEventSelection := by
  intro s es
  refine ⟨fun b hs => ⟨fun h => ?_, fun hc hlen => ?_⟩, ?_⟩
  · refine (step_of_script hs).trans (takeStimulus_of_condition (i := .rxpush b) rfl rfl ?_ rfl)
    simpa [Instr.condition, rxFull_eq_false] using h
  · refine (step_of_script hs).trans (takeStimulus_of_condition (i := .rxpushOvf b) rfl rfl ?_ rfl)
    simp [Instr.condition, State.rxFull, hc, hlen]
  exact ⟨fun _ hs => step_of_decode hs rfl rfl, fun hs => step_of_decode hs rfl rfl,
    fun _ hs => step_of_decode hs rfl rfl, fun _ hs => step_of_decode hs rfl rfl,
    fun _ _ hs => step_of_decode hs rfl rfl, fun hs => step_of_decode hs rfl rfl,
    fun hs => step_of_decode hs rfl rfl, fun _ hs => step_of_decode hs rfl rfl,
    fun _ hs => step_of_decode hs rfl rfl, fun hs => step_of_decode hs rfl rfl⟩

end Sys2Proof.Machine
end

section
/-! SUPPORT. Proofs, family 40_intake.md. RXPUSH, RXPUSH.OVF, RXERR and RXIOERR answer with their effect (R101 to R104);
a script of received bytes fills the queue, and the byte that finds it full empties it. -/

namespace Sys2Proof.Machine

/-! ## One operation -/

theorem rxFull_of_length_eq {s : State} (h : s.rxq.length = s.params.rxqCap) : s.rxFull = true :=
  decide_eq_true h.ge

theorem enables_rxpush (b : Byte) (s : State) : s.enables (.rxpush b) = (!s.connected || !s.rxFull) :=
  Bool.and_true _

theorem enables_rxpushOvf (b : Byte) (s : State) : s.enables (.rxpushOvf b) = (s.connected && s.rxFull) :=
  Bool.and_true _

section
variable {i : Instr} {s t : State} (hen : s.enables i = true) (hi : effectOf i s = if s.connected then t else s)
include hen hi

/-- A selected operation that acts only while connected, on a connected engine. -/
theorem exec_of_connected (hc : s.connected = true) : exec i s = .next t :=
  exec_eq_next.2 ⟨hen, (hi.trans (if_pos hc)).symm⟩

/-- A selected operation that acts only while connected, on a disconnected engine. -/
theorem exec_of_disconnected (hc : s.connected = false) : exec i s = .next s :=
  exec_eq_next.2 ⟨hen, (hi.trans (if_neg (ne_true_of_eq_false hc))).symm⟩

end

/-- Settles O1: with room, or disconnected, RXPUSH is selected, and it acts only while connected. -/
theorem rxpushQueuesOrIgnores : Obligations.RxpushQueuesOrIgnores := by
  refine ⟨fun s b hc hroom => exec_of_connected ?_ rfl hc, fun s b hc => exec_of_disconnected ?_ rfl hc⟩
  · rw [enables_rxpush, rxFull_eq_false.2 hroom]; exact Bool.or_true _
  · rw [enables_rxpush, hc]; rfl

/-- Settles O2: connected and full selects RXPUSH.OVF. -/
theorem overflowClearsQueueOnce : Obligations.OverflowClearsQueueOnce := fun s b hc hfull =>
  exec_eq_next.2 ⟨by rw [enables_rxpushOvf, hc, rxFull_of_length_eq hfull]; rfl, rfl⟩

/-- Settles O4: RXERR is always selected, and it acts only while connected. -/
theorem lineErrorIsReportedOnly : Obligations.LineErrorIsReportedOnly := fun _ k =>
  ⟨exec_of_connected (i := .rxerr k) rfl rfl, exec_of_disconnected (i := .rxerr k) rfl rfl⟩

/-- Settles O5: RXIOERR is always selected, and it acts only while connected. -/
theorem readFailureIsReportedOnly : Obligations.ReadFailureIsReportedOnly := fun _ =>
  ⟨exec_of_connected (i := .rxioerr) rfl rfl, exec_of_disconnected (i := .rxioerr) rfl rfl⟩

/-! ## A script of received bytes -/

/-- A received byte for which there is room is queued (R83, R101). -/
theorem step_rxb_room {s : State} {b : Byte} {es : List Stimulus} (hscript : s.script = .rxb b :: es)
    (hc : s.connected = true) (hroom : s.rxq.length < s.params.rxqCap) :
    step s = .next { s with script := es, rxq := s.rxq ++ [b] } :=
  (((interfaceEventSelection s es).1 b hscript).1 (.inr hroom)).trans (rxpushQueuesOrIgnores.1 _ b hc hroom)

/-- A received byte that finds the queue full empties it and is reported (R83, R102). -/
theorem step_rxb_full {s : State} {b : Byte} {es : List Stimulus} (hscript : s.script = .rxb b :: es)
    (hc : s.connected = true) (hfull : s.rxq.length = s.params.rxqCap) :
    step s =
      .next { s with script := es, rxq := [], evt := s.evt ++ [⟨.error .rxqOverflow, s.listeners⟩] } :=
  (((interfaceEventSelection s es).1 b hscript).2 hc hfull).trans (overflowClearsQueueOnce _ b hc hfull)

/-- Bytes that exceed the room left by one: all but the last are queued, and the last empties the queue. -/
theorem run_scriptRx_overflow (bs : List Byte) (es : List Stimulus) {s : State} (hc : s.connected = true)
    (hcap : s.rxq.length ≤ s.params.rxqCap) (hlen : s.rxq.length + bs.length = s.params.rxqCap + 1)
    (hscript : s.script = scriptRx bs ++ es) :
    run bs.length s =
      .next { s with script := es, rxq := [], evt := s.evt ++ [⟨.error .rxqOverflow, s.listeners⟩] } := by
  induction bs generalizing s with
  | nil => rw [List.length_nil] at hlen; omega
  | cons b bs ih =>
    rw [List.length_cons] at hlen ⊢
    obtain hroom | hfull := hcap.lt_or_eq
    · have hput : (s.rxq ++ [b]).length = s.rxq.length + 1 := List.length_append
      have hrest : (s.rxq ++ [b]).length + bs.length = s.params.rxqCap + 1 := by omega
      rw [run_succ _ _ _ (step_rxb_room hscript hc hroom)]
      exact ih hc (hput.trans_le hroom) hrest rfl
    · obtain rfl : bs = [] := List.eq_nil_of_length_eq_zero (by omega)
      exact run_succ _ _ _ (step_rxb_full hscript hc hfull)

/-- Settles O3: an empty queue has room for RXQ_CAP bytes, one less than the script brings. -/
theorem capacityPlusOneBytesOverflowOnce : Obligations.CapacityPlusOneBytesOverflowOnce := by
  intro s bs es hc hq hlen hscript
  have hempty : s.rxq.length = 0 := by rw [hq, List.length_nil]
  rw [run_scriptRx_overflow bs es hc (by omega) (by omega) hscript, hq]

end Sys2Proof.Machine
end

section
/-! SUPPORT. Proofs, family 41_assembler.md. What ASM.SYNC, ASM.ACK, ASM.DROP, ASM.FILL and ASM.LAST do with the head of
RXQ (R111 to R115); a stray byte and a frame behind it, byte by byte (R117); the cancellation (R116, R182). -/

namespace Sys2Proof.Machine

/-! ## One byte -/

section
variable {s : State} {b : Byte} {rest : List Byte}

/-- An assembler operation whose row holds runs on the head of RXQ (R110). -/
theorem exec_of_rxHead {i : Instr} (hq : s.rxq = b :: rest) (hop : s.holdsOperand i = s.rxHeadIs b)
    (hcond : i.condition s.view = true) : exec i s = .next (effectOf i s) := by
  have hhead : s.rxHeadIs b = true := rxHeadIs_iff.2 ⟨rest, hq⟩
  exact exec_eq_next.2 ⟨by rw [State.enables, hcond, hop, hhead]; rfl, rfl⟩

theorem rxqTake_of_cons (hq : s.rxq = b :: rest) : rxqTake s = { s with rxq := rest } := by
  rw [rxqTake, hq, List.tail_cons]

/-- ASM.FILL at any of its positions (R114). -/
theorem exec_asmFill {n : Fin Config.frameLen} (hc : s.connected = true) (hq : s.rxq = b :: rest) (h : s.fidx = n)
    (h1 : 1 ≤ n.val) (h4 : n.val ≤ 4) :
    exec (.asmFill b) s = .next { s with rxq := rest, fr := s.fr.set n b, fidx := n + 1 } := by
  subst h
  have h0 : s.fidx ≠ 0 := fun h => by simp [h] at h1
  have h5 : s.fidx ≠ 5 := fun h => by simp [h] at h4
  rw [exec_of_rxHead hq rfl (by simp [Instr.condition, hc, h0, h5]), effectOf, rxqTake_of_cons hq]
  rfl

end

/-- Settles O6: in each clause the row's condition holds, and its effect takes the head of RXQ. -/
theorem huntStateSteps : Obligations.HuntStateSteps := by
  intro s b rest hc h0 hq
  refine ⟨fun hb => ?_, fun hb hw => ?_, fun hb hw => ?_⟩
  · subst hb
    rw [exec_of_rxHead hq rfl (by simp [Instr.condition, hc, h0]), effectOf, rxqTake_of_cons hq]
    rfl
  · rw [exec_of_rxHead hq rfl (by simp [Instr.condition, hc, h0, hb, hw]), effectOf, rxqTake_of_cons hq]
  · rw [exec_of_rxHead hq rfl (by simp [Instr.condition, hc, h0, hb, hw]), effectOf, rxqTake_of_cons hq]

/-- Settles O7: ASM.FILL at each of its four positions. -/
theorem fillStateStoresAnyByte : Obligations.FillStateStoresAnyByte := fun _ _ _ hc hq =>
  ⟨fun h => exec_asmFill hc hq h (by decide) (by decide), fun h => exec_asmFill hc hq h (by decide) (by decide),
    fun h => exec_asmFill hc hq h (by decide) (by decide), fun h => exec_asmFill hc hq h (by decide) (by decide)⟩

/-- Settles O8: ASM.LAST is selected at FIDX 5, and its effect holds the classifier's. -/
theorem sixthByteCompletesAndClassifies : Obligations.SixthByteCompletesAndClassifies := by
  intro s b rest hc h5 hq
  rw [exec_of_rxHead hq rfl (by simp [Instr.condition, hc, h5]), effectOf, hq, List.tail_cons]
  rfl

/-- Settles O14: ASM.CANCEL and CLOSE are always selected, and CLOSE acts only while connected. What the model leaves in
FR is what it held (log 9); ASM.CANCEL has no condition of its own (log 16). -/
theorem closeCancelsOnce : Obligations.CloseCancelsOnce :=
  ⟨fun s => ⟨s.fr, rfl⟩, fun s hc => ⟨s.fr, exec_of_connected (i := .close) rfl rfl hc⟩,
    fun _ => exec_of_disconnected (i := .close) rfl rfl⟩

/-! ## A stray byte, then a frame -/

section
variable {s : State} {b : Byte} {rest : List Byte} {es : List Stimulus}

section
variable (hscript : s.script = .asm :: es) (hc : s.connected = true) (hq : s.rxq = b :: rest)
include hscript hc hq

/-- An assembler step on a stray byte that no command waits for (R80, R113). -/
theorem step_asmDrop (h0 : s.fidx = 0) (hw : s.waitingForAck = false) (hb : b ≠ Config.sync) :
    step s = .next { s with script := es, rxq := rest } := by
  obtain ⟨-, -, selects, -, -⟩ := (assemblerStepSelection s es hscript).2 b rest hc hq
  obtain ⟨-, -, drops⟩ := huntStateSteps { s with script := es } b rest hc h0 hq
  exact (selects h0 hb hw).trans (drops hb hw)

/-- An assembler step on SYNC in hunt state (R80, R111). -/
theorem step_asmSync (h0 : s.fidx = 0) (hb : b = Config.sync) :
    step s = .next { s with script := es, rxq := rest, fr := { s.fr with sync := b }, fidx := 1 } := by
  obtain ⟨selects, -, -, -, -⟩ := (assemblerStepSelection s es hscript).2 b rest hc hq
  obtain ⟨begins, -, -⟩ := huntStateSteps { s with script := es } b rest hc h0 hq
  exact (selects h0 hb).trans (begins hb)

/-- An assembler step on one of bytes 1 to 4 (R80, R114). -/
theorem step_asmFill {n : Fin Config.frameLen} (h : s.fidx = n) (h1 : 1 ≤ n.val) (h4 : n.val ≤ 4) :
    step s = .next { s with script := es, rxq := rest, fr := s.fr.set n b, fidx := n + 1 } := by
  obtain ⟨-, -, -, selects, -⟩ := (assemblerStepSelection s es hscript).2 b rest hc hq
  exact (selects (h ▸ h1) (h ▸ h4)).trans (exec_asmFill hc hq h h1 h4)

/-- An assembler step on the sixth byte (R80, R115). -/
theorem step_asmLast {f : Frame} (h5 : s.fidx = 5) (hf : { s.fr with cks := b } = f) :
    step s = .next { s with
      script := es
      rxq := rest
      fr := f
      fidx := 0
      suspended := verdictSuspended s.suspended (classify s.params s.ownAddr f)
      evt := s.evt ++ [⟨verdictTelegram f (classify s.params s.ownAddr f), s.listeners⟩] } := by
  subst hf
  obtain ⟨-, -, -, -, selects⟩ := (assemblerStepSelection s es hscript).2 b rest hc hq
  exact (selects h5).trans (sixthByteCompletesAndClassifies { s with script := es } b rest hc h5 hq)

end

/-- Four assembler steps on bytes 1 to 4, whatever follows them (R114). -/
theorem run_asm_fill {c d e g : Byte} (k : Nat) (hscript : s.script = List.replicate 4 .asm ++ es)
    (hc : s.connected = true) (hq : s.rxq = c :: d :: e :: g :: rest) (h : s.fidx = 1) :
    run (k + 4) s = run k { s with
      script := es
      rxq := rest
      fr := { s.fr with src := c, dst := d, var := e, val := g }
      fidx := 5 } :=
  calc run (k + 4) s
    _ = run (k + 3) _ := run_succ _ _ _ (step_asmFill hscript hc hq h (by decide) (by decide))
    _ = run (k + 2) _ := run_succ _ _ _ (step_asmFill (n := 2) rfl (by exact hc) rfl rfl (by decide) (by decide))
    _ = run (k + 1) _ := run_succ _ _ _ (step_asmFill (n := 3) rfl (by exact hc) rfl rfl (by decide) (by decide))
    _ = run k _ := run_succ _ _ _ (step_asmFill (n := 4) rfl (by exact hc) rfl rfl (by decide) (by decide))

/-- Six assembler steps on a frame met in hunt state: it is begun, filled, completed and classified (R111, R114,
R115). -/
theorem run_asm_frame {f : Frame} (hscript : s.script = List.replicate 6 .asm ++ es) (hc : s.connected = true)
    (hq : s.rxq = f.bytes ++ rest) (h0 : s.fidx = 0) (hf : f.sync = Config.sync) :
    run 6 s = .next { s with
      script := es
      rxq := rest
      fr := f
      fidx := 0
      suspended := verdictSuspended s.suspended (classify s.params s.ownAddr f)
      evt := s.evt ++ [⟨verdictTelegram f (classify s.params s.ownAddr f), s.listeners⟩] } :=
  calc run 6 s
    _ = run 5 _ := run_succ _ _ _ (step_asmSync hscript hc hq h0 hf)
    _ = run 1 _ := run_asm_fill 1 rfl (by exact hc) rfl rfl
    _ = .next _ := run_succ _ _ _ (step_asmLast (f := f) rfl (by exact hc) rfl rfl rfl)

end

/-- Settles O56: the stray byte is dropped in the first step, and the frame behind it is met in hunt state. -/
theorem strayByteThenFrameResynchronises : Obligations.StrayByteThenFrameResynchronises := by
  intro s b f rest more hc h0 hw hb hf hq hscript
  rw [run_succ _ _ _ (step_asmDrop hscript hc hq h0 hw hb), h0]
  exact run_asm_frame rfl hc rfl rfl hf

end Sys2Proof.Machine
end

section
/-! SUPPORT. Proofs, family 42_classifier.md. The checksum and its laws (R130, R79); the verdicts in terms of the bytes of
the frame (R131); the operation of a frame's verdict, on the state that holds the frame (R132 to R136). -/

namespace Sys2Proof

/-! ## The checksum -/

/-- Validity in the 8-bit accumulator: the form in which changes of bytes cancel (R130). -/
theorem Frame.valid_iff_wrapping (f : Frame) : f.valid = true ↔ f.sync + f.src + f.dst + f.var + f.val = f.cks := by
  rw [Frame.valid, beq_iff_eq, checksum_eq_wrapping]

/-- Five bytes of at most 255 each (R79). -/
theorem Frame.sum_le (f : Frame) : f.sum ≤ 1275 := by
  have byte_le (b : Byte) : b.toNat ≤ 255 := Nat.le_of_lt_succ b.isLt
  have h0 := byte_le f.sync
  have h1 := byte_le f.src
  have h2 := byte_le f.dst
  have h3 := byte_le f.var
  have h4 := byte_le f.val
  unfold Frame.sum
  omega

/-- The sixth byte is no summand: the one that makes a frame valid is the checksum of the first five (R130 (b)). -/
theorem Frame.valid_with_cks_iff (f : Frame) (d : Byte) : ({ f with cks := d } : Frame).valid = true ↔ d = checksum f :=
  beq_iff_eq.trans eq_comm

/-- A byte of a valid frame is determined by the other five: addition of the others can be cancelled (R130 (c)). -/
theorem Frame.eq_get_of_valid_set {f : Frame} {i : Fin Config.frameLen} {b : Byte} (hf : f.valid = true)
    (hset : (f.set i b).valid = true) : b = f.get i := by
  rw [Frame.valid_iff_wrapping] at hf hset
  match i with
  | 0 | 1 | 2 | 3 | 4 => simpa [Frame.set, Frame.get] using hset.trans hf.symm
  | 5 => exact hset.symm.trans hf

/-- What one byte gains and the next loses leaves the accumulator as it was (R130 (d)). -/
theorem Frame.valid_src_add_dst_sub {f : Frame} (h : f.valid = true) (d : Byte) :
    ({ f with src := f.src + d, dst := f.dst - d } : Frame).valid = true := by
  rw [Frame.valid_iff_wrapping] at h ⊢
  rw [← h]
  ring

/-- Settles O13, law by law. -/
theorem checksumLaws : Obligations.ChecksumLaws := by
  refine ⟨fun f => ?_, checksum_eq_wrapping, fun f => beq_iff_eq, fun f h => h ▸ checksum_eq_wrapping f,
    fun f => ⟨checksum f, f.valid_with_cks_iff⟩, fun f i b hf hb => ?_,
    fun f h => Frame.valid_src_add_dst_sub h 1, Frame.sum_le⟩
  · rw [checksum, BitVec.toNat_ofNat]
    exact Nat.mod_mod f.sum 256
  · exact eq_false_of_ne_true fun hset => hb (Frame.eq_get_of_valid_set hf hset)

/-! ## The verdicts -/

theorem accepted_iff {p : Params} {own : Byte} {f : Frame} :
    accepted p own f = true ↔ f.dst = own ∨ f.dst = p.addrBroadcast ∨ f.dst = p.addrPanel1 := by
  simp [accepted, Frame.get, or_assoc]

theorem checksum_ne_get_five_iff {f : Frame} : checksum f ≠ f.get 5 ↔ f.sum % 256 ≠ f.cks.toNat :=
  not_congr (beq_iff_eq.symm.trans f.valid_iff)

/-- The order of the checks, on the bytes by name (R131). -/
theorem classify_eq (p : Params) (own : Byte) (f : Frame) :
    classify p own f =
      if f.sum % 256 ≠ f.cks.toNat then .crcError
      else if f.val = p.suspendByte then .suspend
      else if f.val = p.resumeByte then .resume
      else if f.dst = own ∨ f.dst = p.addrBroadcast ∨ f.dst = p.addrPanel1 then .ok
      else .notForUs := by
  simp only [classify, checksum_ne_get_five_iff, accepted_iff]
  rfl

/-- Settles O9: at each exit of the chain of checks, the tests passed on the way are the verdict's condition. -/
theorem classifierPrecedence : Obligations.ClassifierPrecedence := by
  intro p own f
  rw [classify_eq]
  split_ifs with hcks hsus hres hacc
  · simp [hcks]
  all_goals have hvalid : f.sum % 256 = f.cks.toNat := not_not.1 hcks
  · simp [hvalid, hsus]
  · simp [hvalid, hres, hres ▸ hsus]
  · simpa [hvalid, hsus, hres, or_iff_not_imp_left] using hacc
  · simpa [hvalid, hsus, hres] using hacc

namespace Machine

/-! ## The operation of the verdict -/

/-- The operation of the verdict on FR is the one selected; it emits the verdict's telegram and writes `suspended` by
the verdict (R131 to R136). -/
theorem exec_verdict_op {s : State} {w : Verdict} (h : classify s.params s.ownAddr s.fr = w) :
    exec (w.op s.fr) s = .next { s with
      suspended := verdictSuspended s.suspended w
      evt := s.evt ++ [⟨verdictTelegram s.fr w, s.listeners⟩] } := by
  have hcond : (w.op s.fr).condition s.view = true := condition_verdict_op.2 h
  have hop : s.holdsOperand (w.op s.fr) = true := by cases w <;> exact beq_self_eq_true s.fr
  refine exec_eq_next.2 ⟨by rw [State.enables, hcond, hop]; rfl, ?_⟩
  cases w <;> rfl

/-- Settles O10: the verdict on the frame is CRC_ERROR, which keeps `suspended`. -/
theorem corruptFrameIsReportedOnly : Obligations.CorruptFrameIsReportedOnly := by
  rintro s f rfl hcks
  obtain ⟨crcError, -, -, -, -⟩ := classifierPrecedence s.params s.ownAddr s.fr
  exact exec_verdict_op (crcError.2 hcks)

/-- Settles O11: the verdict on the frame is SUSPEND or RESUME, by the marker. -/
theorem controlFramesSetAndClearSuspended : Obligations.ControlFramesSetAndClearSuspended := by
  rintro s f rfl hcks
  obtain ⟨-, suspend, resume, -, -⟩ := classifierPrecedence s.params s.ownAddr s.fr
  exact ⟨fun hsus => exec_verdict_op (suspend.2 ⟨hcks, hsus⟩),
    fun hns hres => exec_verdict_op (resume.2 ⟨hcks, hns, hres⟩)⟩

/-- Settles O12: the verdict on the frame is OK or NOT_FOR_US, by the address; both keep `suspended`. -/
theorem dataFramesAreTaggedByAddress : Obligations.DataFramesAreTaggedByAddress := by
  rintro s f rfl hcks hns hnr
  obtain ⟨-, -, -, ok, notForUs⟩ := classifierPrecedence s.params s.ownAddr s.fr
  exact ⟨fun hacc => exec_verdict_op (ok.2 ⟨hcks, hns, hnr, hacc⟩),
    fun hown hbroad hpanel => exec_verdict_op (notForUs.2 ⟨hcks, hns, hnr, hown, hbroad, hpanel⟩)⟩

end Machine

end Sys2Proof
end

section
/-! SUPPORT. Proofs, family 43_scheduler.md. SEND, and what a tick does with the head of TXQ (R151 to R159); any number
of ticks on a suspended engine (R154, R261), and on a command that nothing echoes (R157, R158); no write while suspended
or disconnected (R160). -/

namespace Sys2Proof.Machine

/-! ## SEND -/

section
variable {k : Kind} {f : Frame} {s : State}

theorem txFull_of_cap_eq (h : s.params.txqCap = some s.txq.length) : s.txFull = true := by
  simp [State.txFull, h]

theorem sendItem_disconnected (hc : s.connected = false) : sendItem k f s = s := by
  simpa [hc] using sendItem_cases k f s

theorem sendItem_full (hc : s.connected = true) (hfull : s.txFull = true) :
    sendItem k f s = raiseErr (.txqFull f) s := by
  simpa [hc, hfull] using sendItem_cases k f s

theorem sendItem_room (hc : s.connected = true) (hroom : s.txFull = false) :
    sendItem k f s = { s with txq := s.txq ++ [newItem k f s] } := by
  simpa [hc, hroom] using sendItem_cases k f s

end

/-- Settles O15: SEND.P and SEND.C are SEND of their kind, which has the three cases. -/
theorem sendQueuesAtTheTail : Obligations.SendQueuesAtTheTail := by
  refine fun s f => ⟨fun hc => ?_, fun hc hcap => ?_, fun hc hroom => ?_⟩
  · exact ⟨congrArg _ (sendItem_disconnected hc), congrArg _ (sendItem_disconnected hc)⟩
  · have hfull := txFull_of_cap_eq hcap
    exact ⟨congrArg _ (sendItem_full hc hfull), congrArg _ (sendItem_full hc hfull)⟩
  · have hroom := txFull_eq_false.2 hroom
    exact ⟨congrArg _ (sendItem_room hc hroom), congrArg _ (sendItem_room hc hroom)⟩

/-! ## One tick -/

theorem enables_tickNop (s : State) : s.enables .tickNop = s.view.tickIdle := Bool.and_true _

/-- Settles O16: TICK.NOP is selected in each of the three conditions, and it has no effect. -/
theorem idleTickChangesNothing : Obligations.IdleTickChangesNothing := fun s h =>
  exec_eq_next.2 ⟨(enables_tickNop s).trans (tickIdle_view.2 h), rfl⟩

/-- The operation a running engine's tick decodes from the head item is selected (R82). -/
theorem exec_of_txHead {s : State} {w : Draw} {k : Kind} {f : Frame} {r : Nat} {q : List Item} {i : Instr}
    (hc : s.connected = true) (hs : s.suspended = false) (hq : s.txq = ⟨k, f, r⟩ :: q)
    (hd : decodeItem w s.view k f = i) : exec i s = .next (effectOf i s) := by
  have hidle : s.view.tickIdle = false := by simp [View.tickIdle, hc, hs, hq]
  have hcond : i.condition s.view = true := hd ▸ (decodeItem_selectedBy w hidle k f).condition
  have hhead : s.txHeadIs k f = true := txHeadIs_iff.2 ⟨r, q, hq⟩
  have hop : s.holdsOperand i = true := by rw [← hd, holdsOperand_decodeItem, hhead]
  exact exec_eq_next.2 ⟨by rw [State.enables, hcond, hop]; rfl, rfl⟩

/-- A command with retries left that no recorded byte matches is written, with the result drawn (R82, R153). -/
theorem decodeItem_of_unmatched {s : State} {f : Frame} {r : Nat} {q : List Item}
    (hq : s.txq = ⟨.command, f, r⟩ :: q) (hr : 0 < r) (hm : s.ackValid = false ∨ f.cks ≠ s.ackByte) (w : Draw) :
    decodeItem w s.view .command f = if w = .ok then .tickRetry f else .tickTxfail .command f :=
  decodeItem_command_unmatched ((headRetries_of_cons hq).symm ▸ hr) (ackMatches_view_eq_false.2 hm) w

/-- Settles O17: a poll at the head selects TICK.POLL where the write succeeds. -/
theorem pollIsWrittenOnceAndDone : Obligations.PollIsWrittenOnceAndDone := by
  intro s f r q hc hs hq
  rw [exec_of_txHead (i := .tickPoll f) (w := .ok) hc hs hq rfl, effectOf, hq, List.tail_cons]

/-- Settles O18: a command with retries left that the recorded byte matches selects TICK.ACKED, whatever the draw. -/
theorem echoedCommandIsAcknowledged : Obligations.EchoedCommandIsAcknowledged := by
  intro s f r q hc hs hq hr hv hm
  have hret : 0 < s.view.headRetries := (headRetries_of_cons hq).symm ▸ hr
  rw [exec_of_txHead hc hs hq (decodeItem_command_matched hret (ackMatches_view.2 ⟨hv, hm⟩) .ok), effectOf, hq,
    List.tail_cons]

/-- Settles O19: an unmatched command selects TICK.RETRY where the write succeeds. -/
theorem unechoedCommandIsWrittenAgain : Obligations.UnechoedCommandIsWrittenAgain := by
  intro s f r q hc hs hq hm
  rw [exec_of_txHead (i := .tickRetry f) hc hs hq (decodeItem_of_unmatched hq r.succ_pos hm .ok)]
  simp [effectOf, State.headRetries, hq]

/-- Settles O20: a command without retries selects TICK.EXHAUST before the ack byte is looked at, whatever the draw. -/
theorem exhaustedCommandIsDropped : Obligations.ExhaustedCommandIsDropped := by
  intro s f q hc hs hq
  rw [exec_of_txHead hc hs hq (decodeItem_command_exhausted (headRetries_of_cons hq) .ok), effectOf, hq, List.tail_cons]

/-- Settles O21: a poll, or an unmatched command, selects TICK.TXFAIL of its kind where the write fails. -/
theorem failedWriteClearsTheQueue : Obligations.FailedWriteClearsTheQueue := by
  refine fun s f r q hc hs => ⟨fun hq => ?_, fun hq hr hm => ?_⟩
  · rw [exec_of_txHead (i := .tickTxfail .poll f) (w := .fail) hc hs hq rfl]
    simp [effectOf]
  · rw [exec_of_txHead (i := .tickTxfail .command f) hc hs hq (decodeItem_of_unmatched hq hr hm .fail)]
    simp [effectOf]

/-! ## Many ticks -/

/-- Settles O50, by induction on the ticks: each one is idle. -/
theorem nothingAgesWhileSuspended : Obligations.NothingAgesWhileSuspended := by
  intro ws
  induction ws with
  | nil =>
    rintro more s - rfl
    exact run_zero s
  | cons w ws ih =>
    intro more s hs hscript
    have hstep : step s = .next { s with script := ws.map .tick ++ more } :=
      ((tickSelection s _ w hscript).1 (.inr (.inl hs))).trans (idleTickChangesNothing _ (.inr (.inl hs)))
    exact (run_succ _ _ _ hstep).trans (ih more _ hs rfl)

section
variable {s : State} {f : Frame} {q : List Item} {es : List Stimulus} (hscript : s.script = .tick .ok :: es)
  (hc : s.connected = true) (hs : s.suspended = false)
include hscript hc hs

/-- A tick on an unechoed command with retries left, whose write succeeds (R157). -/
theorem step_tick_retry {r : Nat} (hq : s.txq = ⟨.command, f, r + 1⟩ :: q)
    (hm : s.ackValid = false ∨ f.cks ≠ s.ackByte) :
    step s = .next { s with
      script := es
      txq := ⟨.command, f, r⟩ :: q
      waitingForAck := true
      txw := s.txw ++ [⟨f, .ok⟩] } := by
  obtain ⟨-, -, -, retry, -⟩ := (tickSelection s es .ok hscript).2 f (r + 1) q hc hs
  exact (retry hq r.succ_pos hm rfl).trans (unechoedCommandIsWrittenAgain _ f r q hc hs hq hm)

/-- A tick on a command without retries (R158). -/
theorem step_tick_exhaust (hq : s.txq = ⟨.command, f, 0⟩ :: q) :
    step s = .next { s with
      script := es
      txq := q
      evt := s.evt ++ [⟨.error (.ackNotReceived f), s.listeners⟩] } := by
  obtain ⟨-, -, -, -, -, exhaust⟩ := (tickSelection s es .ok hscript).2 f 0 q hc hs
  exact (exhaust hq rfl).trans (exhaustedCommandIsDropped _ f q hc hs hq)

end

/-- Settles O51, by induction on the budget: each retry writes once, and what is left behaves as a command of one
retry less. -/
theorem retryBudgetIsExact : Obligations.RetryBudgetIsExact := by
  intro n
  induction n with
  | zero =>
    intro s f q more hc hs hq hm hscript
    rw [run_succ _ _ _ (step_tick_exhaust hscript hc hs hq), run_zero]
    simp
  | succ n ih =>
    intro s f q more hc hs hq hm hscript
    rw [run_succ _ _ _ (step_tick_retry hscript hc hs hq hm),
      ih _ f q more (by exact hc) (by exact hs) rfl (by exact hm) rfl]
    simp [List.replicate_succ]

/-! ## No write -/

/-- No operation that is selected where the scheduler is idle writes to the transport (R154, R155, R157, R159). -/
theorem writeOf_of_tickIdle {i : Instr} {s : State} (hidle : s.view.tickIdle = true) (hen : s.enables i = true) :
    writeOf i = none := by
  cases i with
  | tickPoll f | tickRetry f => simp [State.enables, Instr.condition, hidle] at hen
  | tickTxfail k f => cases k <;> simp [State.enables, Instr.condition, hidle] at hen
  | _ => rfl

/-- Settles O47: a suspended or disconnected scheduler is idle, and TXW grows by what the operation writes. -/
theorem noWriteWhileSuspendedOrClosed : Obligations.NoWriteWhileSuspendedOrClosed := by
  intro s t h hmode
  obtain rfl | ⟨i, hi⟩ := step_next h
  · rfl
  obtain ⟨hen, rfl⟩ := exec_eq_next.1 hi
  have hidle : (dropStimulus s).view.tickIdle = true :=
    tickIdle_view.2 (hmode.elim (fun hs => .inr (.inl hs)) .inl)
  rw [effectOf_txw, writeOf_of_tickIdle hidle hen]
  exact List.append_nil s.txw

end Sys2Proof.Machine
end

section
/-! SUPPORT. Proofs, family 44_host.md. CONNECT and ISCONN (R181, R183), the canonical list of listeners (R184, R185;
log 12), and what a listener receives in a step (R207). -/

namespace Sys2Proof.Machine

/-! ## CONNECT and ISCONN -/

/-- Settles O22: CONNECT is always selected, and it has the three cases. What the model leaves in `ackByte` and FR are
free values (log 8). -/
theorem connectStartsTheEngine : Obligations.ConnectStartsTheEngine := by
  refine fun s own => ⟨fun o hc => ?_, fun reason hc => ?_, fun hc => ?_⟩
  · exact exec_eq_next.2 ⟨rfl, (if_pos hc).symm⟩
  · exact exec_eq_next.2 ⟨rfl, (if_neg (ne_true_of_eq_false hc)).symm⟩
  · exact ⟨(startEngine own s).ackByte, (startEngine own s).fr, (startEngine own s).freeCount,
      exec_eq_next.2 ⟨rfl, (if_neg (ne_true_of_eq_false hc)).symm⟩⟩

/-- Settles O23: ISCONN is always selected, and its effect is the value given back. -/
theorem isconnReturnsTheFlag : Obligations.IsconnReturnsTheFlag := fun _ => exec_eq_next.2 ⟨rfl, rfl⟩

/-! ## The canonical list -/

/-- Settles O24: LADD and LREM are always selected, and the members of the list they write are known. -/
theorem listenersAreAddedAndRemoved : Obligations.ListenersAreAddedAndRemoved := fun s l =>
  ⟨⟨insertListener l s.listeners, exec_eq_next.2 ⟨rfl, rfl⟩, fun _ => mem_insertListener⟩,
    ⟨eraseListener l s.listeners, exec_eq_next.2 ⟨rfl, rfl⟩, fun _ => mem_eraseListener⟩⟩

section
variable {l : Listener} {ls : List Listener}

/-- A rising list is determined by its members (log 12). -/
theorem insertListener_of_mem (h : ls.Pairwise (· < ·)) (hl : l ∈ ls) : insertListener l ls = ls :=
  (insertListener_rising h).eq_of_mem_iff h fun x => by
    rw [mem_insertListener, or_iff_right_of_imp]
    rintro rfl; exact hl

theorem eraseListener_of_not_mem (hl : l ∉ ls) : eraseListener l ls = ls :=
  List.filter_eq_self.2 fun _ hx => decide_eq_true (ne_of_mem_of_not_mem hx hl)

end

/-- Settles O25: the list written is the old one in each of the two cases, and every operation keeps the form. -/
theorem registrationIsIdempotent : Obligations.RegistrationIsIdempotent := by
  intro s l hs
  have keeps (i : Instr) (t : State) (h : exec i s = .next t) : t.listeners.Pairwise (· < ·) := by
    obtain ⟨-, rfl⟩ := exec_eq_next.1 h
    exact effectOf_listeners_rising hs
  refine ⟨fun hl => ?_, fun hl => ?_, keeps _, keeps _⟩
  · exact exec_eq_next.2 ⟨rfl, by rw [effectOf, insertListener_of_mem hs hl]⟩
  · exact exec_eq_next.2 ⟨rfl, by rw [effectOf, eraseListener_of_not_mem hl]⟩

/-! ## Reception -/

section
variable {s t : State} {e : Event}

theorem events_of_evt_append (h : t.evt = s.evt ++ [⟨e, s.listeners⟩]) : t.events = s.events ++ [e] := by
  simp [State.events, h]

/-- A notice reaches the listeners it names and no other (R207). -/
theorem receivedBy_of_evt_append (h : t.evt = s.evt ++ [⟨e, s.listeners⟩]) (l : Listener) :
    t.receivedBy l = s.receivedBy l ++ if l ∈ s.listeners then [e] else [] := by
  by_cases hl : l ∈ s.listeners <;> simp [State.receivedBy, h, hl]

end

/-- Settles O46: a step leaves EVT as it is, or appends one event for the listeners registered when it began. -/
theorem listenersReceiveLaterEventsOnly : Obligations.ListenersReceiveLaterEventsOnly := by
  intro s t l h
  obtain ⟨hkept | ⟨e, he⟩, -⟩ := tracesGrowByAtMostOne s t h
  · exact ⟨fun _ => ⟨[], by simp [State.events, hkept], by simp [State.receivedBy, hkept]⟩,
      fun _ => by simp [State.receivedBy, hkept]⟩
  · have hr := receivedBy_of_evt_append he l
    refine ⟨fun hl => ⟨[e], events_of_evt_append he, ?_⟩, fun hl => ?_⟩
    · rw [hr, if_pos hl]
    · rw [hr, if_neg hl, List.append_nil]

end Sys2Proof.Machine
end

section
/-! SUPPORT. Proofs, family 60_exceptions.md. Which operation raises each error (R200), which operations change the
operating mode (R208), and what a disconnected engine ignores (R202). -/

namespace Sys2Proof.Machine

/-! ## Errors -/

section
variable {s : State}

theorem txFull_eq_true : s.txFull = true ↔ ∃ c, s.params.txqCap = some c ∧ c ≤ s.txq.length := by
  unfold State.txFull
  cases s.params.txqCap <;> simp

theorem tickIdle_view_eq_false :
    s.view.tickIdle = false ↔ s.connected = true ∧ s.suspended = false ∧ s.txq ≠ [] := by
  simp [View.tickIdle, and_assoc]

/-- A selected TICK.EXHAUST finds a running engine and a command without retries at the head of TXQ (R82, R158). -/
theorem running_of_enables_tickExhaust {f : Frame} (h : s.enables (.tickExhaust f) = true) :
    s.connected = true ∧ s.suspended = false ∧ ∃ q, s.txq = ⟨.command, f, 0⟩ :: q := by
  obtain ⟨r, q, hq⟩ := txHead_of_enables h rfl
  simp only [State.enables, Instr.condition, Bool.and_eq_true, Bool.not_eq_true', beq_iff_eq] at h
  obtain ⟨⟨hidle, hr⟩, -⟩ := h
  obtain ⟨hc, hs, -⟩ := tickIdle_view_eq_false.1 hidle
  obtain rfl : r = 0 := (headRetries_of_cons hq).symm.trans hr
  exact ⟨hc, hs, q, hq⟩

end

/-- The classifier reports telegrams only (R132 to R136). -/
theorem verdictTelegram_ne_error (f : Frame) (v : Verdict) (e : Err) : verdictTelegram f v ≠ .error e := by
  cases v <;> exact nofun

/-- Settles O43, operation by operation: the error appended is the one the operation reports, and its condition is what
selects the operation, or what the operation tests. -/
theorem eachErrorHasItsCause : Obligations.EachErrorHasItsCause := by
  intro i s t e h hevt
  obtain ⟨hen, rfl⟩ := exec_eq_next.1 h
  have he : eventOf i s = some (.error e) := eventOf_of_evt_append hevt
  cases i with
  | rxpushOvf b =>
    cases he
    have hfull : s.connected = true ∧ s.rxFull = true := by simpa [enables_rxpushOvf] using hen
    exact ⟨⟨b, rfl⟩, hfull.imp_right of_decide_eq_true⟩
  | rxerr k =>
    obtain ⟨hc, rfl⟩ : s.connected = true ∧ .lineError k = e := by simpa [eventOf] using he
    exact ⟨rfl, hc⟩
  | rxioerr =>
    obtain ⟨hc, rfl⟩ : s.connected = true ∧ .rxIo = e := by simpa [eventOf] using he
    exact ⟨rfl, hc⟩
  | asmLast b => exact absurd (Option.some.inj he) (verdictTelegram_ne_error _ _ e)
  | asmCancel => cases he; exact .inl rfl
  | tickExhaust f => cases he; exact ⟨rfl, running_of_enables_tickExhaust hen⟩
  | tickTxfail k f =>
    cases he
    obtain ⟨r, q, hq⟩ := txHead_of_enables hen rfl
    exact ⟨⟨k, r, q, rfl, hq⟩, effectOf_txw _ s⟩
  | sendP f | sendC f =>
    obtain ⟨⟨hc, hfull⟩, rfl⟩ : (s.connected = true ∧ s.txFull = true) ∧ .txqFull f = e := by
      simpa [eventOf] using he
    exact ⟨by simp, hc, txFull_eq_true.1 hfull⟩
  | close =>
    obtain ⟨hc, rfl⟩ : s.connected = true ∧ .cancelled = e := by simpa [eventOf] using he
    exact .inr ⟨rfl, hc⟩
  | _ => simp [eventOf] at he

/-! ## Modes -/

section
variable {s : State}

theorem mode_eq_disconnected : s.mode = .disconnected ↔ s.connected = false := by
  unfold State.mode
  cases s.connected <;> cases s.suspended <;> simp

theorem mode_eq_running : s.mode = .running ↔ s.connected = true ∧ s.suspended = false := by
  unfold State.mode
  cases s.connected <;> cases s.suspended <;> simp

theorem mode_eq_suspended : s.mode = .suspended ↔ s.connected = true ∧ s.suspended = true := by
  unfold State.mode
  cases s.connected <;> cases s.suspended <;> simp

variable {i : Instr}

/-- Only CLOSE and RESET disconnect (R208): a CONNECT of a connected engine keeps the flag. -/
theorem effectOf_disconnects (hs : s.connected = true) (ht : (effectOf i s).connected = false) :
    i = .close ∨ i = .reset := by
  have hne : (effectOf i s).connected ≠ s.connected := by simp [hs, ht]
  obtain ⟨own, rfl⟩ | h := effectOf_connected_writer hne
  · simp [effectOf, hs] at ht
  · exact h

/-- Only a CONNECT that opens connects (R208), and it starts the engine running (R181). -/
theorem effectOf_connects (hs : s.connected = false) (ht : (effectOf i s).connected = true) :
    (effectOf i s).mode = .running ∧ ∃ own, i = .connect own .ok := by
  have hne : (effectOf i s).connected ≠ s.connected := by simp [hs, ht]
  obtain ⟨own, rfl⟩ | rfl | rfl := effectOf_connected_writer hne
  · exact ⟨mode_eq_running.2 ⟨ht, by simp [effectOf, hs, startEngine]⟩, own, rfl⟩
  · simp [effectOf, hs] at ht
  · cases ht

/-- Between the two connected modes, `suspended` is written by CLS.SUSPEND and CLS.RESUME, each to its own value, alone
or inside ASM.LAST (R24, R208). -/
theorem effectOf_suspended_writer_of_connected (hs : s.connected = true) (ht : (effectOf i s).connected = true)
    (hne : (effectOf i s).suspended ≠ s.suspended) :
    ((∃ f, i = .clsSuspend f) ∧ (effectOf i s).suspended = true) ∨
    ((∃ f, i = .clsResume f) ∧ (effectOf i s).suspended = false) ∨ ∃ b, i = .asmLast b := by
  obtain ⟨f, rfl⟩ | ⟨f, rfl⟩ | h | ⟨own, rfl⟩ | rfl := effectOf_suspended_writer hne
  · exact .inl ⟨⟨f, rfl⟩, rfl⟩
  · exact .inr (.inl ⟨⟨f, rfl⟩, rfl⟩)
  · exact .inr (.inr h)
  · simp [effectOf, hs] at hne
  · cases ht

end

/-- Settles O48: a mode is two flags, and each change of mode is a change of one of them by its writers. -/
theorem modeChanges : Obligations.ModeChanges := by
  intro i s t h hne
  obtain ⟨-, rfl⟩ := exec_eq_next.1 h
  refine ⟨fun ht => ?_, fun hs => ?_, fun hs ht => ?_, fun hs ht => ?_⟩
  · have hs : s.connected ≠ false := fun hs => hne (ht.trans (mode_eq_disconnected.2 hs).symm)
    exact effectOf_disconnects (Bool.eq_true_of_not_eq_false hs) (mode_eq_disconnected.1 ht)
  · have ht : (effectOf i s).connected ≠ false := fun ht => hne ((mode_eq_disconnected.2 ht).trans hs.symm)
    exact effectOf_connects (mode_eq_disconnected.1 hs) (Bool.eq_true_of_not_eq_false ht)
  · obtain ⟨hs, hs'⟩ := mode_eq_running.1 hs
    obtain ⟨ht, ht'⟩ := mode_eq_suspended.1 ht
    obtain ⟨hi, -⟩ | ⟨-, hr⟩ | hi := effectOf_suspended_writer_of_connected hs ht (by simp [hs', ht'])
    · exact .inl hi
    · cases ht'.symm.trans hr
    · exact .inr hi
  · obtain ⟨hs, hs'⟩ := mode_eq_suspended.1 hs
    obtain ⟨ht, ht'⟩ := mode_eq_running.1 ht
    obtain ⟨-, hr⟩ | ⟨hi, -⟩ | hi := effectOf_suspended_writer_of_connected hs ht (by simp [hs', ht'])
    · cases ht'.symm.trans hr
    · exact .inl hi
    · exact .inr hi

/-! ## The disconnected engine -/

theorem decodeArrival_of_disconnected {s : State} (hc : s.connected = false) (b : Byte) :
    decodeArrival s.view b = .rxpush b := by
  simp [decodeArrival, hc]

/-- Each stimulus that a disconnected engine ignores takes it to itself (R202, R208). -/
theorem takeStimulus_of_ignored {e : Stimulus} {s : State} (hc : s.connected = false)
    (he : ignoredWhenClosed e = true) : takeStimulus e s = .next s := by
  cases e with
  | rxb b => rw [takeStimulus_rxb, decodeArrival_of_disconnected hc]; exact rxpushQueuesOrIgnores.2 s b hc
  | rxerr k => exact (takeStimulus_of_decode rfl rfl).trans ((lineErrorIsReportedOnly s k).2 hc)
  | rxioerr => exact (takeStimulus_of_decode rfl rfl).trans ((readFailureIsReportedOnly s).2 hc)
  | asm => exact takeStimulus_of_wait (fetch_asm_of_not_enabled (asmEnabled_eq_false.2 (.inl hc)))
  | tick w => exact (takeStimulus_tick_idle (tickIdle_view.2 (.inl hc))).trans (idleTickChangesNothing s (.inl hc))
  | sendP f => exact (takeStimulus_of_decode rfl rfl).trans ((sendQueuesAtTheTail s f).1 hc).1
  | sendC f => exact (takeStimulus_of_decode rfl rfl).trans ((sendQueuesAtTheTail s f).1 hc).2
  | close => exact (takeStimulus_of_decode rfl rfl).trans (closeCancelsOnce.2.2 s hc)
  | connect | isconn | ladd | lrem | reset => cases he

/-- Settles O49, by induction on the script: each stimulus is taken and ignored. -/
theorem closedEngineIsInert : Obligations.ClosedEngineIsInert := by
  intro es
  induction es with
  | nil =>
    rintro more s - - rfl
    exact run_zero s
  | cons e es ih =>
    intro more s hc hes hscript
    obtain ⟨he, hes⟩ := List.forall_mem_cons.1 hes
    have hstep : step s = .next { s with script := es ++ more } :=
      (step_of_script hscript).trans (takeStimulus_of_ignored hc he)
    exact (run_succ _ _ _ hstep).trans (ih more _ hc hes rfl)

end Sys2Proof.Machine
end

section
/-! SUPPORT. Proofs, family 70_reset_and_hazards.md. The state after reset, after RESET and after the CONNECT that
follows (R241 to R243); a stale ack byte (R251); an ack byte is never SYNC (R252). -/

namespace Sys2Proof.Machine

/-! ## Reset -/

/-- Settles O29: the elements are read off the reset state, and its mode is the one of a cleared `connected`. -/
theorem stateAfterReset : Obligations.StateAfterReset :=
  ⟨rfl, rfl, rfl, rfl, rfl, rfl, rfl, rfl, rfl, rfl, mode_eq_disconnected.2 rfl⟩

/-- Settles O26: RESET is always selected, and it appends neither an event nor a write. -/
theorem resetOperationClearsTheEngine : Obligations.ResetOperationClearsTheEngine := fun s =>
  have hevt : (effectOf .reset s).evt = s.evt := (effectOf_evt .reset s).trans (List.append_nil _)
  have htxw : (effectOf .reset s).txw = s.txw := (effectOf_txw .reset s).trans (List.append_nil _)
  ⟨effectOf .reset s, exec_eq_next.2 ⟨rfl, rfl⟩, rfl, rfl, rfl, rfl, rfl, rfl, rfl, rfl,
    ⟨[], (List.append_nil _).trans hevt⟩, ⟨[], (List.append_nil _).trans htxw⟩⟩

/-- CLOSE leaves the engine disconnected, whatever it was, and its listeners registered (R182). -/
theorem exec_close_disconnects (s : State) :
    ∃ t, exec .close s = .next t ∧ t.connected = false ∧ t.listeners = s.listeners := by
  obtain ⟨-, closeConnected, closeDisconnected⟩ := closeCancelsOnce
  cases hc : s.connected with
  | false => exact ⟨s, closeDisconnected s hc, hc, rfl⟩
  | true =>
    obtain ⟨f, h⟩ := closeConnected s hc
    exact ⟨_, h, rfl, rfl⟩

/-- Settles O28: RESET and CLOSE both leave a disconnected engine, and CONNECT gives every specified element but the
listeners a value that does not depend on the disconnected state. -/
theorem connectStartsFromTheSameState : Obligations.ConnectStartsFromTheSameState := by
  intro s own
  obtain ⟨a, hreset, ha, -, -, -, -, -, -, hcleared, -⟩ := resetOperationClearsTheEngine s
  obtain ⟨b, hclose, hb, hkept⟩ := exec_close_disconnects s
  obtain ⟨-, -, startAfterReset⟩ := connectStartsTheEngine a own
  obtain ⟨-, -, startAfterClose⟩ := connectStartsTheEngine b own
  obtain ⟨_, _, _, ht⟩ := startAfterReset ha
  obtain ⟨_, _, _, hu⟩ := startAfterClose hb
  exact ⟨a, b, _, _, hreset, ht, hclose, hu, rfl, rfl, rfl, rfl, rfl, rfl, rfl, rfl, rfl, rfl, rfl, rfl, rfl, rfl,
    rfl, rfl, hcleared, hkept⟩

/-! ## The recorded ack byte -/

section
variable {s : State} {f : Frame} {es : List Stimulus} (hc : s.connected = true)
include hc

/-- SEND.C taken from the script, on a connected engine with an empty TXQ of capacity at least one (R152). -/
theorem step_sendC_of_empty (hscript : s.script = .sendC f :: es) (hq : s.txq = [])
    (hcap : ∀ c ∈ s.params.txqCap, 1 ≤ c) :
    step s = .next { s with script := es, txq := [⟨.command, f, s.params.retryN⟩] } := by
  have hroom : ∀ c ∈ s.params.txqCap, s.txq.length < c := by rwa [hq]
  obtain ⟨-, -, queued⟩ := sendQueuesAtTheTail { s with script := es } f
  have h : step s = .next { s with script := es, txq := s.txq ++ [⟨.command, f, s.params.retryN⟩] } :=
    (step_of_decode (i := .sendC f) hscript rfl rfl).trans (queued hc hroom).2
  rwa [hq] at h

/-- A tick on a command with retries left that the recorded byte matches (R156), whatever the write would draw. -/
theorem step_tick_acked {w : Draw} {r : Nat} {q : List Item} (hscript : s.script = .tick w :: es)
    (hs : s.suspended = false) (hq : s.txq = ⟨.command, f, r⟩ :: q) (hr : 0 < r) (hv : s.ackValid = true)
    (hm : f.cks = s.ackByte) :
    step s = .next { s with
      script := es
      txq := q
      waitingForAck := false
      evt := s.evt ++ [⟨.telegram .ack (some f), s.listeners⟩] } := by
  obtain ⟨-, -, acked, -⟩ := (tickSelection s es w hscript).2 f r q hc hs
  exact (acked hq hr hv hm).trans (echoedCommandIsAcknowledged _ f r q hc hs hq hr hv hm)

end

/-- Settles O53: SEND.C leaves the command at the head with its full budget, and the tick finds it already matched. -/
theorem staleAckAcknowledgesUnsentCommand : Obligations.StaleAckAcknowledgesUnsentCommand := by
  intro s f w more hc hs hq hcap hr hv hm hscript
  rw [run_succ 1 _ _ (step_sendC_of_empty hc hscript hq hcap), hq]
  exact run_succ 0 _ _ (step_tick_acked (by exact hc) rfl (by exact hs) rfl hr (by exact hv) (by exact hm.symm))

/-- ASM.ACK alone records a byte, and it is not selected on SYNC (R80, R112); CONNECT and RESET clear `ackValid`. -/
theorem effectOf_ackNotSync {i : Instr} {s : State} (hen : s.enables i = true) (hs : s.ackNotSync) :
    (effectOf i s).ackNotSync := by
  by_cases hkept : (effectOf i s).ackValid = s.ackValid ∧ (effectOf i s).ackByte = s.ackByte
  · obtain ⟨hv, hb⟩ := hkept
    rwa [State.ackNotSync, hv, hb]
  · obtain ⟨b, rfl⟩ | ⟨own, rfl⟩ | rfl := effectOf_ack_writer (not_and_or.1 hkept)
    · have hb : b ≠ Config.sync := fun hb => by simp [State.enables, Instr.condition, hb] at hen
      exact fun _ => hb
    · obtain ⟨r, ht⟩ | ⟨-, ht⟩ := effectOf_connect_cases own .ok s <;> rw [ht]
      · exact hs
      · exact nofun
    · exact nofun

/-- A recorded byte that is never SYNC matches no frame whose checksum byte is SYNC (R153). -/
theorem enables_tickAcked_of_sync {s : State} {f : Frame} (hs : s.ackNotSync) (hf : f.cks = Config.sync) :
    s.enables (.tickAcked f) = false := by
  have hm : s.view.ackMatches f = false :=
    Bool.eq_false_iff.2 fun h =>
      have ⟨hv, hb⟩ := ackMatches_view.1 h
      hs hv (hb.symm.trans hf)
  simp [State.enables, Instr.condition, hm]

/-- Settles O54: nothing is recorded at reset, every operation keeps the property, and it deselects TICK.ACKED. -/
theorem syncChecksumIsNeverAcknowledged : Obligations.SyncChecksumIsNeverAcknowledged := by
  refine ⟨nofun, fun s t hs h => ?_, fun s f hs hf => exec_of_not_enabled (enables_tickAcked_of_sync hs hf)⟩
  obtain rfl | ⟨i, hi⟩ := step_next h
  · exact hs
  · obtain ⟨hen, rfl⟩ := exec_eq_next.1 hi
    exact effectOf_ackNotSync hen hs

end Sys2Proof.Machine
end

section
/-! SUPPORT. Proofs, family other. What RESET keeps: the histories, the returned values, the script and the parameters
(R241, R244; logs 1, 5, 10, 11). -/

namespace Sys2Proof.Machine

/-- SEND leaves the stimuli to come (log 1). -/
@[simp] theorem sendItem_script (k : Kind) (f : Frame) (s : State) :
    (sendItem k f s).script = s.script := by rw [sendItem_frame]

/-- No operation writes the script: a step drops the stimulus it takes before it runs the operation (log 1). -/
@[simp] theorem effectOf_script (i : Instr) (s : State) : (effectOf i s).script = s.script := by
  cases i with
  | connect own o =>
    obtain ⟨r, h⟩ | ⟨-, h⟩ := effectOf_connect_cases own o s <;> simp [h, startEngine]
  | _ => simp [effectOf, apply_ite State.script, cancelAssembler]

/-- Settles O27: RESET reports no event, writes nothing to the transport and returns no value, so each trace stays as it
was; the script and the parameters are written by no operation at all. -/
theorem resetKeepsHistoriesAndScript : Obligations.ResetKeepsHistoriesAndScript := by
  intro s t h
  obtain ⟨-, rfl⟩ := exec_eq_next.1 h
  have hevt : eventOf .reset s = none := rfl
  have htxw : writeOf .reset = none := rfl
  have hret : returnOf .reset s = none := rfl
  exact ⟨by simp [effectOf_evt, hevt], by simp [effectOf_txw, htxw], by simp [effectOf_ret, hret],
    effectOf_script .reset s, effectOf_params .reset s⟩

end Sys2Proof.Machine
end
